-- ==== Sys2Proof/Word.lean ====
section
/-! DEFINITION. The words the manual treats as bits, and the index types of sockets, slots and rails. -/

namespace Sys2Proof

/-- A byte of a frame, a plan entry or the profile image (R181). -/
abbrev Byte := BitVec 8

/-- A 16-bit field: a CRC, a signature, a raw sensor code, a reading (R117, R181). -/
abbrev Half := BitVec 16

/-- A 32-bit field: a round number, a heard mask, a pass index (R8, R20, R114). -/
abbrev Word := BitVec 32

/-- A socket, 0 to 15 (00_scope.md, "Numbering"). -/
abbrev Socket := Fin 16

/-- A slot of the round, 0 to 31 (R3). -/
abbrev Slot := Fin 32

/-- A place of the peer table or of the budget table: place `k` is station slot `k + 2` (R17, R52). -/
abbrev Station := Fin 30

/-- The three rails (R70). -/
inductive Rail where
  | a | b | c
  deriving DecidableEq, Repr

/-- A rail's place in the rail file, in the order A, B, C (R71). -/
def Rail.ix : Rail → Fin 3
  | .a => 0
  | .b => 1
  | .c => 2

end Sys2Proof
end

