-- ==== Sys2Proof/Syntax.lean ====
section
/-! DEFINITION. The commands of the block: one constructor per row of spec/opcode_table.json. -/

namespace Sys2Proof

/-- One command or event, taken whole (95_what_each_step_holds.md). -/
inductive Instr where
  /-- PIN_RESET (R173): RESET_N falls. -/
  | pinReset
  /-- RESET_RELEASE (R174): RESET_N rises with the straps reading `slot` and `rate` (true is high, 2 Mbit/s). -/
  | resetRelease (slot : Slot) (rate : Bool)
  /-- PROFILE_LOAD_END (R175, R180): the bytes the profile memory holds from address 0 on. -/
  | profileLoadEnd (memory : List Byte)
  /-- ROUND_TIMER_EXPIRY (R4). -/
  | roundTimerExpiry
  /-- MARK (R5): a falling edge on CBM from another driver. -/
  | mark
  /-- JOIN_WAIT_END (R23). -/
  | joinWaitEnd
  /-- RECOVERING_END (R46). -/
  | recoveringEnd
  /-- RETRY_WAIT_END (R89). -/
  | retryWaitEnd (socket : Socket)
  /-- HALF_ROUND_SCAN (R94). -/
  | halfRoundScan
  /-- STATUS_FRAME_BUILD (R11). -/
  | statusFrameBuild
  /-- READBACK_MISMATCH (R14). -/
  | readbackMismatch
  /-- STATUS_FRAME_END (R14). -/
  | statusFrameEnd
  /-- FRAME_RECEIVED (R12): the bytes of a frame whose first start bit fell in `slot`. -/
  | frameReceived (slot : Slot) (bytes : List Byte)
  /-- FRAME_BROKEN (R2): a gap ends the frame in progress in `slot`. -/
  | frameBroken (slot : Slot)
  /-- PLAN (R28): its argument bytes. -/
  | cmdPlan (args : List Byte)
  /-- START (R30). -/
  | cmdStart
  /-- HOLD (R37). -/
  | cmdHold
  /-- RESUME (R37). -/
  | cmdResume
  /-- ADVANCE (R35): its argument byte. -/
  | cmdAdvance (phase : Byte)
  /-- ABORT (R48). -/
  | cmdAbort
  /-- EXCLUDE (R144): its argument byte. -/
  | cmdExclude (socket : Byte)
  /-- INCLUDE (R145): its argument byte. -/
  | cmdInclude (socket : Byte)
  /-- READ (R146): its argument byte. -/
  | cmdRead (socket : Byte)
  /-- TAKE (R158). -/
  | cmdTake
  /-- CLEAR (R51). -/
  | cmdClear
  /-- INVALID_COMMAND (R162): the code byte of a taken command that fails the form check. -/
  | invalidCommand (code : Byte)
  /-- SOCKET_CURRENT_READING (R87), dA. -/
  | socketCurrentReading (socket : Socket) (current : Half)
  /-- INSTANT_TRIP (R88): the current, in dA, that the instant comparator sees. -/
  | instantTrip (socket : Socket) (current : Half)
  /-- SOCKET_SETTLE_END (R84). -/
  | socketSettleEnd (socket : Socket)
  /-- RAIL_READING (R73), mV. -/
  | railReading (rail : Rail) (voltage : Half)
  /-- RAIL_SETTLE_TIMEOUT (R72, R74). -/
  | railSettleTimeout (rail : Rail)
  /-- RAIL_FALL_TIMEOUT (R76). -/
  | railFallTimeout (rail : Rail)
  /-- BULK_READING (R78), mV. -/
  | bulkReading (voltage : Half)
  /-- BOARD_CURRENT_READING (R69), dA. -/
  | boardCurrentReading (current : Half)
  /-- TEMPERATURE_READING (R95): the raw sensor code. -/
  | temperatureReading (socket : Socket) (code : Half)
  /-- SCAN_COMPLETION (R99). -/
  | scanCompletion
  /-- HEATER_PERIOD_START (R102). -/
  | heaterPeriodStart (heater : Socket)
  /-- HEATER_ON_END (R102). -/
  | heaterOnEnd (heater : Socket)
  /-- PASS_END (R118). -/
  | passEnd
  /-- DOOR_CHANGE (R37): DOOR is asserted (low) or not. -/
  | doorChange (asserted : Bool)
  /-- FRAMING_ERROR (R2): a byte of the frame in progress in `slot` has a framing error. -/
  | framingError (slot : Slot)
  deriving DecidableEq, Repr

end Sys2Proof
end

