-- ==== Sys2Proof/Machine/Bytes.lean ====
section
/-! DEFINITION. Byte order and the part's CRC (R117, R181). -/

namespace Sys2Proof.Machine

/-- Feed one bit into a 16-bit CRC register under x^16 + x^12 + x^5 + 1 (R117). -/
def crcBit (r : Half) (b : Bool) : Half :=
  if r.msb != b then (r <<< 1) ^^^ 0x1021 else r <<< 1

/-- Feed one byte, most significant bit first (R181). -/
def crcByte (r : Half) (b : Byte) : Half :=
  [7, 6, 5, 4, 3, 2, 1, 0].foldl (fun acc k => crcBit acc (b.getLsbD k)) r

/-- The CRC of a list of bytes: the register starts at all ones and is not inverted (R181). -/
def crc (bytes : List Byte) : Half := bytes.foldl crcByte 0xFFFF

/-- The byte at an offset; 0 beyond the end. -/
def byteAt (l : List Byte) (i : Nat) : Nat := (l.getD i 0).toNat

/-- A two-byte field, most significant byte first (R181). -/
def u16At (l : List Byte) (i : Nat) : Nat := byteAt l i * 256 + byteAt l (i + 1)

/-- A four-byte field, most significant byte first (R181). -/
def u32At (l : List Byte) (i : Nat) : Nat := u16At l i * 65536 + u16At l (i + 2)

/-- A signed two-byte field, two's complement (R181). -/
def s16At (l : List Byte) (i : Nat) : Int := (BitVec.ofNat 16 (u16At l i)).toInt

/-- A one-byte field as stored. -/
def enc8 (n : Nat) : List Byte := [BitVec.ofNat 8 n]

/-- A two-byte field as stored (R181). -/
def enc16 (n : Nat) : List Byte := [BitVec.ofNat 8 (n / 256), BitVec.ofNat 8 n]

/-- A four-byte field as stored (R181). -/
def enc32 (n : Nat) : List Byte := enc16 (n / 65536) ++ enc16 n

/-- A signed two-byte field as stored (R181). -/
def encS16 (t : Int) : List Byte := enc16 (BitVec.ofInt 16 t).toNat

/-- The value of a flag in a byte whose bit `k` it is. -/
def bit (b : Bool) (k : Nat) : Nat := if b then 2 ^ k else 0

/-- Bit `k` of a byte value. -/
def bitOf (n k : Nat) : Bool := n / 2 ^ k % 2 == 1

end Sys2Proof.Machine
end

