-- ==== Sys2Proof/Config.lean ====
section
/-! DEFINITION. The free values of the model, and the constants of the part. -/

namespace Sys2Proof

/-- FREE VALUE (log entry 3): the levels of the response lines at the `n`-th strobe after power-on (R116).
Bits `2s` and `2s + 1` are RSP[s][0] and RSP[s][1]. Nothing is known of it. -/
opaque Config.responseSample : Nat → BitVec 32

/-- FREE VALUE (log entry 22): the value the scanner's converter gives at its `n`-th conversion after power-on, where no
command gave the reading (R80, R81). Nothing is known of it. -/
opaque Config.conversion : Nat → Half

/-- The failure history holds at most 48 entries (R149). -/
def Config.historyCap : Nat := 48

/-- Exposure and credit entries stop at this value (R131, R141). -/
def Config.countMax : Nat := 4294967295

/-- The longest profile image that is read, in bytes (R175). -/
def Config.imageCap : Nat := 16384

/-- Ticks of one byte on the profile port: eight clocks of 10 MHz (R175). -/
def Config.portByteTicks : Nat := 32

/-- Ticks of the part's 40 MHz rate in a microsecond (R112). -/
def Config.ticksPerUs : Nat := 40

/-- The length of the station's own mark pulse, in µs (R4), and of the time from a slot's start to its frame's first
start bit (R3, R11). -/
def Config.markPulseUs : Nat := 20

/-- Ticks of one conversion of the scanner: 20 µs (R80). -/
def Config.conversionTicks : Nat := 800

/-- Ticks of one frame of the scanner: 50 conversion slots (R80). -/
def Config.scanFrameTicks : Nat := 40000

end Sys2Proof
end

