-- ==== Sys2Proof/Machine/State.lean ====
section
/-! DEFINITION. The state of the station as plain data, its value after pin reset, and the reasons a step can stop. -/

namespace Sys2Proof.Machine

/-- The nine station states (R25). -/
inductive StationState where
  | reset | loading | loadFail | listen | muted | idle | active | windDown | done
  deriving DecidableEq, Repr

/-- The sub-states of ACTIVE (R27). -/
inductive SubState where
  | bringUp | running | transition | held | recovering
  deriving DecidableEq, Repr

/-- Why a run ended (R25, R50). -/
inductive EndCause where
  | complete | aborted | stopped
  deriving DecidableEq, Repr

/-- Why a station is MUTED (R15, R22, R23). -/
inductive MuteCause where
  | strap | rack | clash
  deriving DecidableEq, Repr

/-- The causes of an interruption (R44 and the text before it). -/
inductive IntCause where
  | rail | bulk | board | unheard
  deriving DecidableEq, Repr

/-- The states of a socket (R133). -/
inductive SocketState where
  | off | powering | settled | running | retry | parked | failed | excluded
  deriving DecidableEq, Repr

/-- Who excluded a socket (R131). -/
inductive ExclusionSource where
  | profile | command
  deriving DecidableEq, Repr

/-- The kinds of a permanent socket failure (R131). -/
inductive FailKind where
  | openLoad | overcurrent | functional | thermal
  deriving DecidableEq, Repr

/-- The class of a temperature reading (R96). -/
inductive Band where
  | cold | window | warm | trip | unknown
  deriving DecidableEq, Repr

/-- The standing of a peer table entry (R17). -/
inductive Presence where
  | absent | live | silent | lost
  deriving DecidableEq, Repr

/-- The states of a rail (R70). -/
inductive RailState where
  | off | ramping | up | retargeting | falling
  deriving DecidableEq, Repr

/-- The phases of a heater (R102). -/
inductive HeaterPhase where
  | stopped | offTime | waiting | on
  deriving DecidableEq, Repr

/-- The states of the pattern engine (R111). -/
inductive Engine where
  | stopped | static | playing | stopping
  deriving DecidableEq, Repr

/-- The polarity sequences (R115). -/
inductive PolaritySequence where
  | none | alternate | pairs
  deriving DecidableEq, Repr

/-- The pattern a phase names (R28). -/
inductive Pattern where
  | loop (number : Nat)
  | static
  deriving DecidableEq, Repr

/-- A request for current (R55). -/
inductive Need where
  | railBase
  | socket (s : Socket)
  | transition
  | heater
  deriving DecidableEq, Repr

/-- The result of a command (R162, R163). -/
inductive CmdResult where
  | none | accepted | refusedState | refusedArg | ignored
  deriving DecidableEq, Repr

/-- The station's own frame in the round in progress (R11, R14). `carriedOver` is the frame of an earlier round, still
being sent after an early mark (log entry 11). -/
inductive Transmission where
  | notSent | carriedOver | sending | stoppedByReadback | sentWhole
  deriving DecidableEq, Repr

/-- Which request a temperature scan answers (R94). -/
inductive ScanKind where
  | mark | half
  deriving DecidableEq, Repr

/-- The wait a transition stands in (R40 to R42): the end of the pass, the grant, the retarget, the next mark. -/
inductive TransitStage where
  | stopping | granting | retargeting | complete
  deriving DecidableEq, Repr

/-- A transition in progress: its target phase and its wait (R40). -/
structure Transit where
  target : Nat
  stage : TransitStage
  deriving DecidableEq, Repr

/-- A pattern loop of the profile (R114). -/
structure Loop where
  first : Nat
  count : Nat
  latency : Nat
  sigTrue : Half
  sigInverted : Half
  deriving DecidableEq, Repr

/-- A pattern vector of the profile (R114). -/
structure PatternVector where
  drive : Byte
  compare : Bool
  clocks : Nat
  deriving DecidableEq, Repr

/-- One entry of the phase plan (R28). -/
structure PlanEntry where
  index : Nat
  length : Nat
  lo : Int
  hi : Int
  levelA : Fin 4
  levelB : Fin 4
  levelC : Fin 4
  pattern : Pattern
  staticDrive : Byte
  clockWord : Nat
  sequence : PolaritySequence
  minutes : Nat
  heater : Bool
  deriving DecidableEq, Repr

/-- The board profile: the parameters of R176 and R177, the loops and the vectors. -/
structure Profile where
  budget : Nat
  period : Nat
  lostThreshold : Nat
  joinWait : Nat
  enableMask : Half
  levels : Vector (Vector Nat 4) 3
  tolerance : Nat
  railSettle : Vector Nat 3
  socketSettle : Nat
  base : Vector Nat 4
  allowance : Vector Nat 4
  openFloor : Nat
  tripDebounce : Nat
  retryLimit : Nat
  retryWait : Nat
  interruptionLimit : Nat
  recoveryWait : Nat
  bulkThreshold : Nat
  nominal : Nat
  heaterPeriod : Nat
  heaterStep : Nat
  maxTokens : Nat
  tripMargin : Nat
  functionalThreshold : Nat
  reentry : Nat
  idleDrive : Byte
  loops : List Loop
  vectors : List PatternVector
  deriving DecidableEq, Repr

/-- The fields of a status frame that its receivers act on (R17, R169, section 9.5). -/
structure StatusReport where
  round : Word
  stateCode : BitVec 2
  subCode : BitVec 3
  hold : Bool
  rackCode : Half
  planCode : Half
  phase : Nat
  vote : Bool
  held : Nat
  asked : Nat
  heard : Word
  deriving DecidableEq, Repr

/-- One entry of the peer table (R17). -/
structure Peer where
  presence : Presence
  missed : Nat
  report : StatusReport
  rackDiffers : Bool
  deriving DecidableEq, Repr

/-- The Bus Interface Unit (chapter 1). `roundTimer` counts µs, and `usPhase` the 25 ns ticks into the µs it counts;
`cbmPulse` and `txClock` count ticks. -/
structure Biu where
  roundTimer : Nat
  usPhase : Nat
  synced : Bool
  roundNumber : Word
  slip : Nat
  driftWarn : Bool
  driftSevere : Bool
  joinCount : Nat
  received : Word
  rxStatus : Vector (Option StatusReport) 30
  rxRounds : List Word
  rxBroken : Option Slot
  peers : Vector Peer 30
  heardMask : Word
  mismatchCount : Nat
  unheardStreak : Nat
  sinceUnheard : Nat
  tx : Transmission
  txFrame : List Byte
  txShowsHead : Bool
  txClock : Nat
  cbmPulse : Nat
  deriving DecidableEq, Repr

/-- The Run Control Unit (chapter 2). -/
structure Rcu where
  state : StationState
  sub : Option SubState
  remembered : Option SubState
  transit : Option Transit
  endCause : Option EndCause
  muteCause : Option MuteCause
  plan : Vector (Option PlanEntry) 12
  planCode : Half
  phase : Nat
  targets : List Nat
  startPending : Bool
  advance : Option Nat
  cmdHold : Bool
  lateMark : Option Nat
  intCount : Nat
  recoverMarks : Nat
  recoverBulk : Bool
  recoverUnheard : Bool
  poweringDown : Bool
  sentVote : Bool
  deriving DecidableEq, Repr

/-- The Budget Unit (chapter 3). -/
structure Bdu where
  ownHeld : Nat
  queue : List Need
  sentHeld : Nat
  sentAsked : Nat
  sentNeed : Option Need
  deriving DecidableEq, Repr

/-- One rail (R70 to R76). The timer counts 25 ns ticks and runs in RAMPING, RETARGETING and FALLING. -/
structure RailUnit where
  state : RailState
  level : Fin 4
  streak : Nat
  timer : Option Nat
  deriving DecidableEq, Repr

/-- The power side of one socket (R82 to R89). The settle timer counts 25 ns ticks. `settledNow` says that the open check
passed at this very instant (R91; log entry 40). -/
structure SocketPower where
  closed : Bool
  allowance : Nat
  threshold : Nat
  debounce : Nat
  openStreak : Nat
  settle : Option Nat
  openCheck : Option Nat
  retryWait : Option Nat
  settledNow : Bool
  deriving DecidableEq, Repr

/-- The Rail Unit (chapter 4). -/
structure Rlu where
  rails : Vector RailUnit 3
  sockets : Vector SocketPower 16
  deferred : Bool
  bulkLow : Bool
  lowStreak : Nat
  highStreak : Nat
  boardStreak : Nat
  deriving DecidableEq, Repr

/-- An input the scanner converts (R80, R81). -/
inductive ScanInput where
  | current (s : Socket)
  | rail (r : Rail)
  | bulk
  | board
  | temperature (s : Socket)
  deriving DecidableEq, Repr

/-- The Measurement Scanner (R80, R81): the 25 ns ticks into its frame, the input in conversion whose reading is yet to
be handed over, the scan in progress with its next channel, the held request, and the model's count of the conversions
it gave a value itself (log entry 22). -/
structure Scanner where
  place : Nat
  converting : Option ScanInput
  scan : Option ScanKind
  channel : Nat
  held : Option ScanKind
  conversions : Nat
  deriving DecidableEq, Repr

/-- The thermal side of one socket (chapter 5). `window` is the window that the last reading was classed against (R96, R99;
log entry 15). On-times are in ms; the two timers count 25 ns ticks. -/
structure Heater where
  lastTemp : Int
  band : Band
  window : Int × Int
  tripStreak : Nat
  sensorStreak : Nat
  onTime : Nat
  inForce : Nat
  phase : HeaterPhase
  nextStart : Option Nat
  onLeft : Option Nat
  deriving DecidableEq, Repr

/-- The Thermal Unit (chapter 5). -/
structure Thu where
  heaters : Vector Heater 16
  anchor : Option Word
  tokens : Nat
  releasePending : Bool
  waitQueue : List Socket
  markScanWarm : Bool
  deriving DecidableEq, Repr

/-- The Pattern Unit (chapter 6). -/
structure Ptu where
  engine : Engine
  loop : Option Loop
  clockWord : Nat
  sequence : PolaritySequence
  acc : BitVec 24
  dclk : Bool
  drv : Byte
  vector : Nat
  clocksLeft : Nat
  drainLeft : Nat
  passIndex : Word
  reentryLeft : Nat
  inverted : Bool
  align : List Bool
  strobe : Bool
  sigs : Vector Half 16
  members : Vector Bool 16
  finishPending : Bool
  samples : Nat
  deriving DecidableEq, Repr

/-- The failure part of a socket record (R131, R135). -/
structure Failure where
  kind : FailKind
  phase : Nat
  credit : Nat
  deriving DecidableEq, Repr

/-- One socket record (R131). -/
structure SocketRecord where
  state : SocketState
  source : Option ExclusionSource
  failure : Option Failure
  retries : Nat
  streak : Nat
  soft : Bool
  passCount : Word
  mismatchCount : Half
  credit : List Nat
  exposure : Nat
  lastCurrent : Half
  lastTemp : Int
  band : Band
  onTime : Nat
  deriving DecidableEq, Repr

/-- The kind of a history entry with its detail (R150). -/
inductive Finding where
  | openLoad (current : Half)
  | overcurrent (current : Nat) (retry : Nat)
  | functional (signature : Half) (inverted : Bool)
  | soft (signature : Half) (inverted : Bool)
  | thermal (temp : Int)
  | sensor (code : Half)
  | interruption (cause : IntCause) (count : Nat)
  deriving DecidableEq, Repr

/-- One entry of the failure history (R150). -/
structure Entry where
  finding : Finding
  final : Bool
  socket : Option Socket
  phase : Nat
  round : Word
  credit : Option Nat
  deriving DecidableEq, Repr

/-- The Accounting Unit (chapters 7 and 8) and the command report (R163). -/
structure Acu where
  records : Vector SocketRecord 16
  history : List Entry
  overflow : Bool
  shown : Bool
  reportCode : BitVec 4
  reportResult : CmdResult
  readDue : Option Socket
  stationGate : Bool
  socketGate : Vector Bool 16
  powered : Vector Bool 16
  deriving DecidableEq, Repr

/-- The latched straps (R174): RATE high (true) is 2 Mbit/s. -/
structure Straps where
  slot : Slot
  rate : Bool
  deriving DecidableEq, Repr

/-- The Start-up Loader (chapter 10). `portClock` counts the 25 ns ticks since the profile port's select was asserted. -/
structure Ldr where
  straps : Option Straps
  profile : Option Profile
  image : List Byte
  rackCode : Half
  portSelect : Bool
  portSent : List Byte
  portClock : Nat
  deriving DecidableEq, Repr

/-- The whole station, the level of its DOOR line and the commands that wait. -/
structure State where
  rcu : Rcu
  biu : Biu
  bdu : Bdu
  rlu : Rlu
  scanner : Scanner
  thu : Thu
  ptu : Ptu
  acu : Acu
  ldr : Ldr
  door : Bool
  pending : List Instr
  deriving DecidableEq, Repr

/-- The spec names no event that stops the machine, so no command faults: the type has no constructor (INVENTORY.md,
"Faults"). Safe: a claim that a command completes is never met by a fault. -/
inductive Fault where
  deriving DecidableEq, Repr

/-- Why a command could be refused. -/
inductive Refusal where
  /-- Raised by an arm of exec whose command has no meaning yet; no arm raises it. Safe: the model stops where the
  hardware goes on. -/
  | notModelled (mnemonic : String)
  deriving DecidableEq, Repr

/-- A peer report with every field 0, false or empty (R17). -/
def StatusReport.blank : StatusReport :=
  { round := 0, stateCode := 0, subCode := 0, hold := false, rackCode := 0, planCode := 0, phase := 0, vote := false,
    held := 0, asked := 0, heard := 0 }

/-- An ABSENT peer entry (R17). -/
def Peer.blank : Peer :=
  { presence := .absent, missed := 0, report := StatusReport.blank, rackDiffers := false }

/-- The BIU after pin reset (R4, R7, R8, R14, R17, R21, R180). Until the entry into LISTEN makes it false (R6) no rule gives
`synced` a value: false here is the model's choice, as are the other registers of log entry 23. -/
def Biu.initial : Biu :=
  { roundTimer := 0, usPhase := 0, synced := false, roundNumber := 0, slip := 0, driftWarn := false, driftSevere := false,
    joinCount := 0, received := 0, rxStatus := Vector.replicate 30 none, rxRounds := [], rxBroken := none,
    peers := Vector.replicate 30 Peer.blank, heardMask := 0, mismatchCount := 0, unheardStreak := 0,
    sinceUnheard := 0, tx := .notSent, txFrame := [], txShowsHead := false, txClock := 0,
    cbmPulse := 0 }

/-- The RCU after pin reset (R26). R26 names no mute cause: none is the model's choice, as are the other registers of log
entry 23. -/
def Rcu.initial : Rcu :=
  { state := .reset, sub := none, remembered := none, transit := none, endCause := none, muteCause := none,
    plan := Vector.replicate 12 none, planCode := 0, phase := 0, targets := [], startPending := false,
    advance := none, cmdHold := false, lateMark := none, intCount := 0, recoverMarks := 0, recoverBulk := false,
    recoverUnheard := false, poweringDown := false, sentVote := false }

/-- The BDU after pin reset (R54). -/
def Bdu.initial : Bdu :=
  { ownHeld := 0, queue := [], sentHeld := 0, sentAsked := 0, sentNeed := none }

/-- A rail after pin reset (R70, R93). -/
def RailUnit.initial : RailUnit := { state := .off, level := 0, streak := 0, timer := none }

/-- The power side of a socket after pin reset (R93). -/
def SocketPower.initial : SocketPower :=
  { closed := false, allowance := 0, threshold := 0, debounce := 0, openStreak := 0, settle := none,
    openCheck := none, retryWait := none, settledNow := false }

/-- The RLU after pin reset (R93). -/
def Rlu.initial : Rlu :=
  { rails := Vector.replicate 3 RailUnit.initial, sockets := Vector.replicate 16 SocketPower.initial,
    deferred := false, bulkLow := false, lowStreak := 0, highStreak := 0, boardStreak := 0 }

/-- The scanner at rest (R80, R94). -/
def Scanner.initial : Scanner :=
  { place := 0, converting := none, scan := none, channel := 0, held := none, conversions := 0 }

/-- The thermal side of a socket after pin reset (R110). No reading is classed yet, and `window` is the model's choice (log
entry 23). -/
def Heater.initial : Heater :=
  { lastTemp := 0, band := .unknown, window := (0, 0), tripStreak := 0, sensorStreak := 0, onTime := 0, inForce := 0,
    phase := .stopped, nextStart := none, onLeft := none }

/-- The THU after pin reset (R103, R110). -/
def Thu.initial : Thu :=
  { heaters := Vector.replicate 16 Heater.initial, anchor := none, tokens := 0, releasePending := false,
    waitQueue := [], markScanWarm := false }

/-- The PTU after pin reset (R111). -/
def Ptu.initial : Ptu :=
  { engine := .stopped, loop := none, clockWord := 0, sequence := .none, acc := 0, dclk := false, drv := 0,
    vector := 0, clocksLeft := 0, drainLeft := 0, passIndex := 0, reentryLeft := 0, inverted := false, align := [],
    strobe := false, sigs := Vector.replicate 16 0xFFFF, members := Vector.replicate 16 false,
    finishPending := false, samples := 0 }

/-- A socket record after pin reset (R132). -/
def SocketRecord.initial : SocketRecord :=
  { state := .off, source := none, failure := none, retries := 0, streak := 0, soft := false, passCount := 0,
    mismatchCount := 0, credit := [0], exposure := 0, lastCurrent := 0, lastTemp := 0, band := .unknown, onTime := 0 }

/-- The ACU after pin reset (R132, R146, R149, R163). -/
def Acu.initial : Acu :=
  { records := Vector.replicate 16 SocketRecord.initial, history := [], overflow := false, shown := false,
    reportCode := 0, reportResult := .none, readDue := none, stationGate := false,
    socketGate := Vector.replicate 16 false, powered := Vector.replicate 16 false }

/-- The LDR after pin reset (R173 to R175). -/
def Ldr.initial : Ldr :=
  { straps := none, profile := none, image := [], rackCode := 0, portSelect := false, portSent := [],
    portClock := 0 }

/-- The station in RESET, every block at its values after pin reset (R173, R180), with nothing commanded.
Registers without a reset value in the spec stand as log entries 14 and 23 name them. -/
def State.reset : State :=
  { rcu := Rcu.initial, biu := Biu.initial, bdu := Bdu.initial, rlu := Rlu.initial, scanner := Scanner.initial,
    thu := Thu.initial, ptu := Ptu.initial, acu := Acu.initial, ldr := Ldr.initial, door := false,
    pending := [] }

end Sys2Proof.Machine
end

