-- ==== Sys2Proof/Machine/Operands.lean ====
section
/-! DEFINITION. The operand forms: plan entries (R28, R186), command and status frames as received (R12, R182, R183,
R188) and the board profile image (R175 to R178, R187). -/

namespace Sys2Proof.Machine

/-! ### Plan entries -/

/-- The code of a polarity sequence (R186). -/
def PolaritySequence.code : PolaritySequence → Nat
  | .none => 0
  | .alternate => 1
  | .pairs => 2

/-- The polarity sequence of a code; 3 is unassigned (R186, R188). -/
def polarityOf : Nat → Option PolaritySequence
  | 0 => some .none
  | 1 => some .alternate
  | 2 => some .pairs
  | _ => none

/-- The code of a pattern (R186). -/
def Pattern.code : Pattern → Nat
  | .loop k => k
  | .static => 15

/-- The pattern of a code, with `loops` loops defined in the profile: 8 to 14 are unassigned, and a loop must be
defined (R28, R186, R188). -/
def patternOf (loops code : Nat) : Option Pattern :=
  if code = 15 then some .static
  else if code < 8 ∧ code < loops then some (.loop code)
  else none

/-- A rail level from two bits (R186). -/
def levelOf (n : Nat) : Fin 4 := Fin.ofNat 4 n

/-- The fields of a plan entry lie in their accepted ranges (R28). -/
def PlanEntry.inRange (e : PlanEntry) : Bool :=
  1 ≤ e.length && e.length ≤ 12 && e.index < e.length && -80 ≤ e.lo && e.lo < e.hi && e.hi ≤ 430 &&
  1 ≤ e.clockWord && e.clockWord ≤ 4194304 && 1 ≤ e.minutes && e.minutes ≤ 65535

/-- Read a plan entry and check every field; none is the refusal REFUSED_ARG (R28, R186, R188). -/
def parsePlan (loops : Nat) (args : List Byte) : Option PlanEntry :=
  let b5 := byteAt args 5
  let b6 := byteAt args 6
  if bitOf b5 6 || bitOf b6 7 || bitOf b6 6 then none
  else
    match polarityOf (b6 / 16 % 4), patternOf loops (b6 % 16) with
    | some seq, some pat =>
      let e : PlanEntry :=
        { index := byteAt args 0 / 16, length := byteAt args 0 % 16, lo := s16At args 1, hi := s16At args 3,
          levelA := levelOf (b5 / 16), levelB := levelOf (b5 / 4), levelC := levelOf b5,
          pattern := pat, staticDrive := args.getD 7 0, clockWord := u32At args 8, sequence := seq,
          minutes := u16At args 12, heater := bitOf b5 7 }
      if e.inRange then some e else none
    | _, _ => none

/-- A plan entry's fourteen bytes as stored (R186). -/
def PlanEntry.bytes (e : PlanEntry) : List Byte :=
  enc8 (e.index * 16 + e.length) ++ encS16 e.lo ++ encS16 e.hi ++
  enc8 (bit e.heater 7 + e.levelA.val * 16 + e.levelB.val * 4 + e.levelC.val) ++
  enc8 (e.sequence.code * 16 + e.pattern.code) ++ [e.staticDrive] ++ enc32 e.clockWord ++ enc16 e.minutes

/-! ### Command frames -/

/-- A command frame as received (R160, R183). -/
structure CommandFrame where
  round : Word
  target : Nat
  code : Byte
  args : List Byte
  deriving DecidableEq, Repr

/-- Receive the bytes heard in slot 0 or 1: kind, slot field, argument count, length and CRC must check, and bytes
after the CRC are ignored (R12, R183, R188). -/
def parseCommand (slot : Nat) (bytes : List Byte) : Option CommandFrame :=
  let argc := byteAt bytes 8
  if byteAt bytes 0 = 1 ∧ byteAt bytes 1 = slot ∧ argc ≤ 15 ∧ 11 + argc ≤ bytes.length ∧
     (crc (bytes.take (9 + argc))).toNat = u16At bytes (9 + argc) then
    some { round := BitVec.ofNat 32 (u32At bytes 2), target := byteAt bytes 6, code := bytes.getD 7 0,
           args := (bytes.drop 9).take argc }
  else none

/-! ### Status frames -/

/-- The length of a status frame before its CRC, from its head-present and reply-present flags (R166, R182). -/
def statusBody (flags : Nat) : Nat :=
  28 + (if bitOf flags 5 then 14 else 0) + (if bitOf flags 4 then 24 else 0)

/-- Receive the bytes heard in a station slot: kind, slot field, length and CRC must check; unassigned bits are not
read (R12, R182, R188). -/
def parseStatus (slot : Nat) (bytes : List Byte) : Option StatusReport :=
  let body := statusBody (byteAt bytes 7)
  if byteAt bytes 0 = 2 ∧ byteAt bytes 1 = slot ∧ body + 2 ≤ bytes.length ∧
     (crc (bytes.take body)).toNat = u16At bytes body then
    some { round := BitVec.ofNat 32 (u32At bytes 2),
           stateCode := BitVec.ofNat 2 (byteAt bytes 6 / 64),
           subCode := BitVec.ofNat 3 (byteAt bytes 6 / 8),
           hold := bitOf (byteAt bytes 7) 7,
           rackCode := BitVec.ofNat 16 (u16At bytes 8),
           planCode := BitVec.ofNat 16 (u16At bytes 10),
           phase := byteAt bytes 12 % 16,
           vote := bitOf (byteAt bytes 12) 7,
           held := u16At bytes 13,
           asked := u16At bytes 15,
           heard := BitVec.ofNat 32 (u32At bytes 17) }
  else none

/-- The length of a frame with its CRC, read from its own fields: a command frame's argument count, a status frame's flags
(R12, R166, R183). -/
def frameLength (slot : Slot) (bytes : List Byte) : Nat :=
  if slot.val < 2 then 11 + byteAt bytes 8 else statusBody (byteAt bytes 7) + 2

/-! ### The board profile -/

/-- Four 16-bit fields in a row. -/
def fourAt (l : List Byte) (i : Nat) : Vector Nat 4 :=
  #v[u16At l i, u16At l (i + 2), u16At l (i + 4), u16At l (i + 6)]

/-- The loop record at an offset (R187). -/
def loopAt (l : List Byte) (o : Nat) : Loop :=
  { first := u16At l o, count := u16At l (o + 2), latency := byteAt l (o + 4),
    sigTrue := BitVec.ofNat 16 (u16At l (o + 5)), sigInverted := BitVec.ofNat 16 (u16At l (o + 7)) }

/-- The vector record at an offset: the repeat count is stored less 1 (R187). -/
def vectorAt (l : List Byte) (o : Nat) : PatternVector :=
  { drive := l.getD o 0, compare := bitOf (byteAt l (o + 1)) 0, clocks := byteAt l (o + 2) + 1 }

/-- The vectors from a list of bytes, three bytes each, read front to back (R187). -/
def vectorsOf : Nat → List Byte → List PatternVector
  | 0, _ => []
  | n + 1, l => vectorAt l 0 :: vectorsOf n (l.drop 3)

/-- The loops from a list of bytes, nine bytes each (R187). -/
def loopsOf : Nat → List Byte → List Loop
  | 0, _ => []
  | n + 1, l => loopAt l 0 :: loopsOf n (l.drop 9)

/-- Every vector's flag byte has bits 7 to 1 clear (R187, R188). -/
def vectorFlagsOk : Nat → List Byte → Bool
  | 0, _ => true
  | n + 1, l => byteAt l 1 < 2 && vectorFlagsOk n (l.drop 3)

/-- The image length that the header's counts give (R187). -/
def imageLength (nLoops nVectors : Nat) : Nat := 80 + 9 * nLoops + 3 * nVectors

/-- The profile an image spells (R187), its counts of loops and vectors given. -/
def parseProfile (l : List Byte) : Profile :=
  { budget := u16At l 5, period := byteAt l 7, lostThreshold := byteAt l 8, joinWait := byteAt l 9,
    enableMask := BitVec.ofNat 16 (u16At l 10),
    levels := #v[fourAt l 12, fourAt l 20, fourAt l 28], tolerance := u16At l 36,
    railSettle := #v[byteAt l 38, byteAt l 39, byteAt l 40], socketSettle := byteAt l 41,
    base := fourAt l 42, allowance := fourAt l 50, openFloor := u16At l 58, tripDebounce := byteAt l 60,
    retryLimit := byteAt l 61, retryWait := byteAt l 62, interruptionLimit := byteAt l 63,
    recoveryWait := byteAt l 64, bulkThreshold := u16At l 65, nominal := u16At l 67, heaterPeriod := u16At l 69,
    heaterStep := u16At l 71, maxTokens := byteAt l 73, tripMargin := byteAt l 74,
    functionalThreshold := byteAt l 75, reentry := byteAt l 76, idleDrive := l.getD 77 0,
    loops := loopsOf (byteAt l 2) (l.drop 78),
    vectors := vectorsOf (u16At l 3) (l.drop (78 + 9 * byteAt l 2)) }

/-- A value lies between two bounds. -/
def within (lo n hi : Nat) : Bool := lo ≤ n && n ≤ hi

/-- Every one of four values lies between two bounds. -/
def allWithin (lo : Nat) (v : Vector Nat 4) (hi : Nat) : Bool := v.toList.all (fun n => within lo n hi)

/-- Values at neighbouring levels rise or stay equal (R178). -/
def rising (v : Vector Nat 4) : Bool := v[0] ≤ v[1] && v[1] ≤ v[2] && v[2] ≤ v[3]

/-- The number of sockets in the enable mask (R178). -/
def enabledCount (mask : Half) : Nat := ((List.range 16).filter (fun i => mask.getLsbD i)).length

/-- The ranges of R176 and R177. -/
def Profile.inRange (p : Profile) : Bool :=
  within 10 p.budget 60000 && within 13 p.period 100 && within 2 p.lostThreshold 8 && within 2 p.joinWait 16 &&
  p.levels.toList.all (fun v => allWithin 100 v 15000) && within 1 p.tolerance 1000 &&
  p.railSettle.toList.all (fun n => within 1 n 255) && within 1 p.socketSettle 100 &&
  allWithin 1 p.base 60000 && allWithin 1 p.allowance 30000 && p.openFloor ≤ 30000 &&
  within 1 p.tripDebounce 15 && p.retryLimit ≤ 3 && within 1 p.retryWait 255 && p.interruptionLimit ≤ 7 &&
  within 1 p.recoveryWait 255 && within 1 p.bulkThreshold 65535 && within 1 p.nominal 60000 &&
  within 10 p.heaterPeriod 2000 && within 1 p.heaterStep p.heaterPeriod && within 1 p.maxTokens 16 &&
  within 1 p.tripMargin 50 && within 1 p.functionalThreshold 15 && p.reentry ≤ 3 &&
  p.loops.all (fun k => 1 ≤ k.count && k.latency ≤ 7)

/-- The cross-checks of R178, with the rate strap high for 2 Mbit/s. -/
def Profile.crossChecks (p : Profile) (rate : Bool) : Bool :=
  (rate || 24 ≤ p.period) &&
  p.base.toList.all (· ≤ p.budget) && p.allowance.toList.all (· ≤ p.budget) && p.nominal ≤ p.budget &&
  (p.base[3] - p.base[0]) + (p.allowance[3] - p.allowance[0]) * enabledCount p.enableMask ≤ p.budget &&
  rising p.base && rising p.allowance &&
  p.levels.toList.all (fun v => v.toList.all (fun mV => p.tolerance < mV)) &&
  p.openFloor < p.allowance[0] &&
  p.loops.all (fun k => k.first + k.count ≤ p.vectors.length)

/-- A byte as the port's eight rising edges sample it, most significant bit first (R175). -/
def clockIn (b : Byte) : Byte :=
  [7, 6, 5, 4, 3, 2, 1, 0].foldl (fun acc k => (acc <<< 1) ||| (if b.getLsbD k then 1 else 0)) 0

/-- The first `n` bytes the port reads; the data input stays high where the memory gives no byte (R175; log entry 19). -/
def readMemory (memory : List Byte) (n : Nat) : List Byte :=
  (memory.take n ++ List.replicate (n - memory.length) 0xFF).map clockIn

/-- The bytes of the image that the LDR reads: the header alone where its length is out of bounds, otherwise exactly as many
as the length gives (R175). -/
def bytesRead (memory : List Byte) : Nat :=
  let length := u16At (readMemory memory 5) 0
  if length < 80 ∨ Config.imageCap < length then 5 else length

/-- Judge the profile read from a memory: the header's length first, then the CRC, the ranges and the cross-checks.
None is a profile error (R175 to R178, R187, R188). The image is returned with the profile. -/
def judgeProfile (rate : Bool) (memory : List Byte) : Option (Profile × List Byte) :=
  let header := readMemory memory 5
  let length := u16At header 0
  let nLoops := byteAt header 2
  let nVectors := u16At header 3
  if length < 80 ∨ Config.imageCap < length then none
  else
    let image := readMemory memory length
    if (crc (image.take (length - 2))).toNat = u16At image (length - 2) ∧ nLoops ≤ 8 ∧ nVectors ≤ 4096 ∧
       length = imageLength nLoops nVectors ∧
       vectorFlagsOk nVectors (image.drop (78 + 9 * nLoops)) = true ∧
       (parseProfile image).inRange = true ∧ (parseProfile image).crossChecks rate = true then
      some (parseProfile image, image)
    else none

/-- The rack code: the CRC of the five bytes of the rack section (R179, R181). -/
def rackCodeOf (image : List Byte) : Half := crc ((image.drop 5).take 5)

end Sys2Proof.Machine
end

