-- ==== Sys2Proof/Machine/Ops.lean ====
section
/-! DEFINITION. The named operations over the state: parameters and levels, per-socket updates, the plan, the need
queue, the socket records and the failure history. -/

namespace Sys2Proof.Machine

/-! ### Times -/

/-- Microseconds as ticks of 25 ns (R112). -/
def usTicks (us : Nat) : Nat := us * Config.ticksPerUs

/-- Milliseconds as ticks of 25 ns (R112). -/
def msTicks (ms : Nat) : Nat := usTicks (ms * 1000)

/-! ### Parameters and places -/

/-- Parameters before a profile is loaded; no rule reads them there (log entry 21). -/
def Profile.blank : Profile :=
  { budget := 0, period := 0, lostThreshold := 0, joinWait := 0, enableMask := 0,
    levels := Vector.replicate 3 (Vector.replicate 4 0), tolerance := 0, railSettle := Vector.replicate 3 0,
    socketSettle := 0, base := Vector.replicate 4 0, allowance := Vector.replicate 4 0, openFloor := 0,
    tripDebounce := 0, retryLimit := 0, retryWait := 0, interruptionLimit := 0, recoveryWait := 0,
    bulkThreshold := 0, nominal := 0, heaterPeriod := 0, heaterStep := 0, maxTokens := 0, tripMargin := 0,
    functionalThreshold := 0, reentry := 0, idleDrive := 0, loops := [], vectors := [] }

/-- The parameters the blocks hold (R180). -/
def State.prof (s : State) : Profile := s.ldr.profile.getD Profile.blank

/-- The latched slot (R174). -/
def State.slot (s : State) : Slot := (s.ldr.straps.map Straps.slot).getD 0

/-- The slot of a place of the peer table (R17). -/
def stationSlot (k : Station) : Nat := k.val + 2

/-- A place of the peer table is the station's own (R19). -/
def State.isOwn (s : State) (k : Station) : Bool := stationSlot k == s.slot.val

/-- The place of a slot in the peer table; slots 0 and 1 have none (R17). -/
def stationOf (slot : Slot) : Option Station :=
  if h : 2 ≤ slot.val then some ⟨slot.val - 2, by omega⟩ else none

/-- The states in which the station sends status frames and takes commands (R11, R13). -/
def State.transmits (s : State) : Bool :=
  match s.rcu.state with
  | .idle | .active | .windDown | .done => true
  | _ => false

/-- The states in which the round timer and the scanner run and frames may be received (R4, R12, R80). -/
def State.running (s : State) : Bool := s.transmits || s.rcu.state == .listen

/-- All places of the peer table, in ascending slot order. -/
def allStations : List Station := List.finRange 30

/-- All sockets, in ascending order. -/
def allSockets : List Socket := List.finRange 16

/-- The three rails in the order A, B, C (R71). -/
def allRails : List Rail := [.a, .b, .c]

/-! ### Per-socket and per-rail updates -/

/-- Update one socket record. -/
def State.modRecord (s : State) (i : Socket) (f : SocketRecord → SocketRecord) : State :=
  { s with acu := { s.acu with records := s.acu.records.set i (f s.acu.records[i]) } }

/-- Update every socket record. -/
def State.mapRecords (s : State) (f : Socket → SocketRecord → SocketRecord) : State :=
  { s with acu := { s.acu with records := Vector.ofFn (fun i : Socket => f i s.acu.records[i]) } }

/-- Update the power side of one socket. -/
def State.modPower (s : State) (i : Socket) (f : SocketPower → SocketPower) : State :=
  { s with rlu := { s.rlu with sockets := s.rlu.sockets.set i (f s.rlu.sockets[i]) } }

/-- Update the power side of every socket. -/
def State.mapPower (s : State) (f : Socket → SocketPower → SocketPower) : State :=
  { s with rlu := { s.rlu with sockets := Vector.ofFn (fun i : Socket => f i s.rlu.sockets[i]) } }

/-- Update the thermal side of one socket. -/
def State.modHeater (s : State) (i : Socket) (f : Heater → Heater) : State :=
  { s with thu := { s.thu with heaters := s.thu.heaters.set i (f s.thu.heaters[i]) } }

/-- Update the thermal side of every socket. -/
def State.mapHeaters (s : State) (f : Socket → Heater → Heater) : State :=
  { s with thu := { s.thu with heaters := Vector.ofFn (fun i : Socket => f i s.thu.heaters[i]) } }

/-- Update one rail. -/
def State.modRail (s : State) (r : Rail) (f : RailUnit → RailUnit) : State :=
  { s with rlu := { s.rlu with rails := s.rlu.rails.set r.ix (f s.rlu.rails[r.ix]) } }

/-- Update every rail. -/
def State.mapRails (s : State) (f : RailUnit → RailUnit) : State :=
  { s with rlu := { s.rlu with rails := s.rlu.rails.map f } }

/-- The state of a socket, which its record holds (chapter 7). -/
def State.socketState (s : State) (i : Socket) : SocketState := s.acu.records[i].state

/-- A socket is powered: its switch is closed (R133). -/
def SocketState.powered : SocketState → Bool
  | .powering | .settled | .running => true
  | _ => false

/-- A socket holds an allowance (R40, R133). -/
def SocketState.holds : SocketState → Bool
  | .powering | .settled | .running | .retry => true
  | _ => false

/-- A rail's state. -/
def State.railState (s : State) (r : Rail) : RailState := s.rlu.rails[r.ix].state

/-- Every rail is OFF. -/
def State.railsOff (s : State) : Bool := allRails.all (fun r => s.railState r == .off)

/-- Every rail is UP (R32). -/
def State.railsUp (s : State) : Bool := allRails.all (fun r => s.railState r == .up)

/-- Every rail is UP or RETARGETING (R60, R82). -/
def State.railsCarry (s : State) : Bool :=
  allRails.all (fun r => s.railState r == .up || s.railState r == .retargeting)

/-! ### The plan -/

/-- The plan entry of a phase, if held (R29). -/
def Rcu.entry (r : Rcu) (p : Nat) : Option PlanEntry := (r.plan.toList.getD p none)

/-- The plan length that the held entries carry; 0 when the plan is empty (R29). -/
def Rcu.planLength (r : Rcu) : Nat :=
  (r.plan.toList.findSome? (fun e => e.map PlanEntry.length)).getD 0

/-- The plan is complete: it holds every index from 0 to n − 1, all with the same n (R29). -/
def Rcu.planComplete (r : Rcu) : Bool :=
  0 < r.planLength &&
  (List.range r.planLength).all (fun i => (r.entry i).any (fun e => e.length == r.planLength))

/-- The plan code: the CRC of the complete plan's entries in index order, or 0 (R29, R181). -/
def Rcu.codeOfPlan (r : Rcu) : Half :=
  if r.planComplete then
    crc ((List.range r.planLength).flatMap (fun i => ((r.entry i).map PlanEntry.bytes).getD []))
  else 0

/-- Store an accepted entry: entries with another n are discarded first (R29). -/
def Rcu.storeEntry (r : Rcu) (e : PlanEntry) : Rcu :=
  let kept := if r.planLength = e.length then r.plan else Vector.replicate 12 none
  let stored : Rcu := { r with plan := Vector.ofFn (fun i : Fin 12 => if i.val = e.index then some e else kept[i]) }
  { stored with planCode := stored.codeOfPlan }

/-- A rail's level in a phase (R70). -/
def Rcu.railLevel (r : Rcu) (p : Nat) (rail : Rail) : Fin 4 :=
  match r.entry p with
  | none => 0
  | some e =>
    match rail with
    | .a => e.levelA
    | .b => e.levelB
    | .c => e.levelC

/-- The rail-A level of a phase, which fixes its allowances (R57). -/
def Rcu.levelA (r : Rcu) (p : Nat) : Fin 4 := r.railLevel p .a

/-- The voltage of a rail at a level (R70). -/
def State.voltage (s : State) (rail : Rail) (level : Fin 4) : Nat := s.prof.levels[rail.ix][level]

/-- A plan duration in rounds: minutes times 60 000 over P, rounded up (00_scope.md, "Durations in rounds"; R29). -/
def roundsOf (minutes period : Nat) : Nat := (minutes * 60000 + (period - 1)) / period

/-- The target of a phase in rounds (R29, R143). -/
def State.target (s : State) (p : Nat) : Nat := s.rcu.targets.getD p 0

/-! ### Levels in force and amounts -/

/-- The level in force for sockets (R57). -/
def State.levelInForce (s : State) : Fin 4 :=
  match s.rcu.transit with
  | none => s.rcu.levelA s.rcu.phase
  | some t =>
    match t.stage with
    | .stopping | .granting => s.rcu.levelA s.rcu.phase
    | .retargeting => max (s.rcu.levelA s.rcu.phase) (s.rcu.levelA t.target)
    | .complete => s.rcu.levelA t.target

/-- The number of sockets that hold an allowance (R40). -/
def State.holders (s : State) : Nat := (allSockets.filter (fun i => (s.socketState i).holds)).length

/-- The transition delta from the phase index to a target (R40, R58). -/
def State.delta (s : State) (target : Nat) : Int :=
  let old := s.rcu.levelA s.rcu.phase
  let new := s.rcu.levelA target
  ((s.prof.base[new] : Int) - s.prof.base[old]) +
    s.holders * ((s.prof.allowance[new] : Int) - s.prof.allowance[old])

/-- The amount of a need, in dA (R57, R58). -/
def State.amount (s : State) : Need → Nat
  | .railBase => s.prof.base[s.rcu.levelA s.rcu.phase]
  | .socket _ => s.prof.allowance[s.levelInForce]
  | .transition => (s.rcu.transit.map (fun t => (s.delta t.target).toNat)).getD 0
  | .heater => s.prof.nominal

/-! ### The need queue and the own held -/

/-- Place a need: a TRANSITION need at the front, any other at the tail, a duplicate not at all (R55). -/
def place (queue : List Need) (n : Need) : List Need :=
  if n ∈ queue then queue
  else if n = .transition then n :: queue
  else queue ++ [n]

/-- Place a need with the BDU (R55). -/
def State.placeNeed (s : State) (n : Need) : State :=
  { s with bdu := { s.bdu with queue := place s.bdu.queue n } }

/-- Withdraw a need (R56). -/
def State.withdraw (s : State) (n : Need) : State :=
  { s with bdu := { s.bdu with queue := s.bdu.queue.filter (· != n) } }

/-- Empty the need queue (R56). -/
def State.clearQueue (s : State) : State := { s with bdu := { s.bdu with queue := [] } }

/-- Release an amount: the own held falls at once (R65). -/
def State.release (s : State) (amount : Nat) : State :=
  { s with bdu := { s.bdu with ownHeld := s.bdu.ownHeld - amount } }

/-- Release everything held (R44, R47, R49 step 4). -/
def State.releaseAll (s : State) : State := { s with bdu := { s.bdu with ownHeld := 0 } }

/-! ### The failure history -/

/-- Write an entry: at the tail when there is room, otherwise it is dropped and the overflow flag set
(R149, R155, R156). -/
def State.writeEntry (s : State) (e : Entry) : State :=
  if s.acu.history.length < Config.historyCap then
    { s with acu := { s.acu with history := s.acu.history ++ [e],
                                 shown := s.acu.shown && !s.acu.history.isEmpty } }
  else { s with acu := { s.acu with overflow := true } }

/-- A socket's credit in a phase, as its record stands (R131, R151). -/
def SocketRecord.creditAt (r : SocketRecord) (p : Nat) : Nat := r.credit.getD p 0

/-- Write an entry about a socket with the phase index, round number and credit of this instant (R151). -/
def State.writeSocketEntry (s : State) (i : Socket) (finding : Finding) (final : Bool) : State :=
  s.writeEntry { finding := finding, final := final, socket := some i, phase := s.rcu.phase,
                 round := s.biu.roundNumber, credit := some (s.acu.records[i].creditAt s.rcu.phase) }

/-- Write an INTERRUPTION entry with the count as it stands (R150 to R152). -/
def State.writeInterruption (s : State) (cause : IntCause) : State :=
  s.writeEntry { finding := .interruption cause s.rcu.intCount, final := false, socket := none,
                 phase := s.rcu.phase, round := s.biu.roundNumber, credit := none }

/-! ### Command report -/

/-- Set the command report (R163). -/
def State.report (s : State) (code : BitVec 4) (result : CmdResult) : State :=
  { s with acu := { s.acu with reportCode := code, reportResult := result } }

end Sys2Proof.Machine
end

