-- ==== Sys2Proof/Machine/Pattern.lean ====
section
/-! DEFINITION. The Pattern Unit's operations: starts, stops, passes, and the clock of the dies (chapter 6). -/

namespace Sys2Proof.Machine

/-! ### Polarity and passes -/

/-- A pass is INVERTED (R115). -/
def invertedAt (sequence : PolaritySequence) (k : Word) : Bool :=
  match sequence with
  | .none => false
  | .alternate => k.toNat % 2 != 0
  | .pairs => 2 ≤ k.toNat % 4

/-- The drive bits of a pass: inverted bit by bit on an INVERTED pass (R115). -/
def polarised (inverted : Bool) (drive : Byte) : Byte := if inverted then ~~~drive else drive

/-- Every SETTLED socket becomes RUNNING (R120, R121). -/
def State.rejoin (s : State) : State :=
  s.mapRecords (fun _ r => if r.state = .settled then { r with state := .running } else r)

/-- A pass begins (R115, R117, R118 step 3, R119): its polarity from its index, the registers at all ones, SETTLED
sockets rejoined, the membership set formed of the RUNNING sockets, the player at the loop's first vector. -/
def State.beginPass (s : State) : State :=
  let s := s.rejoin
  let first := (s.ptu.loop.map Loop.first).getD 0
  { s with ptu := { s.ptu with
      inverted := invertedAt s.ptu.sequence s.ptu.passIndex
      sigs := Vector.replicate 16 0xFFFF
      members := Vector.ofFn (fun i : Socket => s.acu.records[i].state == .running)
      vector := first
      clocksLeft := ((s.prof.vectors[first]?).map PatternVector.clocks).getD 0
      drainLeft := (s.ptu.loop.map Loop.latency).getD 0 } }

/-- The engine stops: DCLK low, DRV at the idle value, no members, and the station gate closes (R111, R119, R139). -/
def State.stopEngine (s : State) : State :=
  { s with ptu := { s.ptu with engine := .stopped, dclk := false, drv := s.prof.idleDrive, strobe := false,
                               members := Vector.replicate 16 false, finishPending := false }
           acu := { s.acu with stationGate := false } }

/-- An abandon request: the pass in flight is discarded without a check (R125). -/
def State.abandon (s : State) : State :=
  if s.ptu.engine = .stopped then s
  else State.stopEngine { s with ptu := { s.ptu with align := [] } }

/-- A pattern start from a STOPPED engine, with re-entry passes (R112, R113, R116). A start that enters PLAYING leaves DRV at
the idle value until the first rising edge of DCLK puts the first vector's bits there (R114): what DRV carries till then is
left open, and this is the model's choice (log entry 42). -/
def State.startPattern (s : State) (reentry : Nat) : State :=
  match s.rcu.entry s.rcu.phase with
  | none => s
  | some e =>
    match e.pattern with
    | .static =>
      State.rejoin { s with ptu := { s.ptu with engine := .static, dclk := false, drv := e.staticDrive } }
    | .loop k =>
      let loop := s.prof.loops[k]?
      State.beginPass { s with ptu := { s.ptu with
        engine := .playing, loop := loop, clockWord := e.clockWord, sequence := e.sequence, dclk := false
        acc := BitVec.ofNat 24 (s.slot.val * 2 ^ 19), passIndex := 0, reentryLeft := reentry, strobe := false
        align := List.replicate ((loop.map Loop.latency).getD 0) false, finishPending := false } }

/-- A start request at a mark (R113, R126): a STOPPING engine plays on, any other is abandoned first and started. -/
def State.requestStart (s : State) (reentry : Nat) : State :=
  if s.ptu.engine = .stopping then
    { s with ptu := { s.ptu with engine := .playing, finishPending := false } }
  else s.abandon.startPattern reentry

/-! ### The clock of the dies -/

/-- Feed one socket's two response bits into its signature, RSP[s][0] first (R117). -/
def feedSignature (sample : BitVec 32) (i : Socket) (sig : Half) : Half :=
  crcBit (crcBit sig (sample.getLsbD (2 * i.val))) (sample.getLsbD (2 * i.val + 1))

/-- The rising edge of a DUT clock (R114, R116): DRV takes the drive bits, the compare flag joins the alignment
queue, and the flag at its head tells whether the clock is a strobe clock. -/
def Ptu.raise (p : Ptu) (flag : Bool) (drv : Byte) : Ptu :=
  let queue := p.align ++ [flag]
  { p with dclk := true, drv := drv, align := queue.tail, strobe := queue.headD false }

/-- The clock that begins at a rising edge: a vector clock while vectors are left, then the drain clocks (R114).
None: the pass is at its end (R118). -/
def State.nextClock (s : State) : Option Ptu :=
  let p := s.ptu
  if p.clocksLeft ≠ 0 then
    match s.prof.vectors[p.vector]? with
    | none => none
    | some v =>
      let raised := p.raise v.compare (polarised p.inverted v.drive)
      if p.clocksLeft = 1 then
        let last := (p.loop.map (fun k => k.first + k.count - 1)).getD 0
        if p.vector < last then
          some { raised with vector := p.vector + 1
                             clocksLeft := ((s.prof.vectors[p.vector + 1]?).map PatternVector.clocks).getD 0 }
        else some { raised with clocksLeft := 0 }
      else some { raised with clocksLeft := p.clocksLeft - 1 }
  else if p.drainLeft ≠ 0 then some { p.raise false p.drv with drainLeft := p.drainLeft - 1 }
  else none

/-- The falling edge: within a strobe clock every socket's responses are sampled (R116, R117). The sample is a free
value (log entry 3). -/
def Ptu.fall (p : Ptu) : Ptu :=
  if p.strobe then
    { p with dclk := false, strobe := false, samples := p.samples + 1
             sigs := Vector.ofFn (fun i : Socket => feedSignature (Config.responseSample p.samples) i p.sigs[i]) }
  else { p with dclk := false }

/-- The accumulator while the engine plays (R112): one addition of the clock word. -/
def Ptu.sum (p : Ptu) : Nat := p.acc.toNat + p.clockWord

/-- One addition of the 40 MHz accumulator (R112, R114, R116); true says that the pass is at its end (R118). -/
def State.dutTick (s : State) : State × Bool :=
  if s.ptu.engine = .playing ∨ s.ptu.engine = .stopping then
    let acc := BitVec.ofNat 24 s.ptu.sum
    if s.ptu.sum < 2 ^ 24 then ({ s with ptu := { s.ptu with acc := acc } }, false)
    else if s.ptu.dclk then ({ s with ptu := { s.ptu.fall with acc := acc } }, false)
    else
      match s.nextClock with
      | some p => ({ s with ptu := { p with acc := acc } }, false)
      | none => ({ s with ptu := { s.ptu with acc := acc } }, true)
  else (s, false)

/-- The first clock of a pass that follows another: the overflow that ended the one raises DCLK for the next
(R118 step 3). -/
def State.raiseFirst (s : State) : State :=
  match s.nextClock with
  | some p => { s with ptu := p }
  | none => s

end Sys2Proof.Machine
end

