-- ==== Sys2Proof/Machine/Thermal.lean ====
section
/-! DEFINITION. The Thermal Unit's operations: bands, tokens, heater phases, scans (chapter 5). -/

namespace Sys2Proof.Machine

/-! ### Windows and bands -/

/-- The window in force, in half-degrees (R96). -/
def State.window (s : State) : Int × Int :=
  let p := if s.rcu.state = .active ∨ (s.rcu.state = .windDown ∧ s.rcu.poweringDown = false) then s.rcu.phase else 0
  match s.rcu.entry p with
  | some e => (e.lo, e.hi)
  | none => (-80, 430)

/-- A raw sensor code as a temperature; none is an invalid reading (R95). -/
def readingOf (code : Half) : Option Int :=
  if -80 ≤ code.toInt ∧ code.toInt ≤ 430 then some code.toInt else none

/-- Class a reading against a window and a trip margin in °C (R96). -/
def bandOf (window : Int × Int) (margin : Nat) : Option Int → Band
  | none => .unknown
  | some r =>
    if r < window.1 then .cold
    else if r ≤ window.2 then .window
    else if r ≤ window.2 + 2 * margin then .warm
    else .trip

/-! ### The token pool and the wait queue -/

/-- The number of heaters in their on-phase, which is the number of tokens in use (R103, R108). -/
def Thu.onCount (t : Thu) : Nat := (t.heaters.toList.filter (fun h => h.phase == .on)).length

/-- A token is free (R103). -/
def Thu.hasFree (t : Thu) : Bool := t.onCount < t.tokens

/-- A heater enters its on-phase: it is due to end one on-time in force later (R102). -/
def turnOn (h : Heater) : Heater := { h with phase := .on, onLeft := some (msTicks h.inForce) }

/-- A heater stops heating for the rest of its period. -/
def turnOff (h : Heater) : Heater := { h with phase := .offTime, onLeft := none }

/-- Steps 2 and 3 of R104: a token goes to the head of the wait queue, or stays free. -/
def State.serveHead (s : State) : State :=
  match s.thu.waitQueue with
  | [] => s
  | h :: rest => State.modHeater { s with thu := { s.thu with waitQueue := rest } } h turnOn

/-- Release one token: T falls by 1 and the own held by the heater nominal current (R104, R105). -/
def State.releaseToken (s : State) : State :=
  State.release { s with thu := { s.thu with tokens := s.thu.tokens - 1, releasePending := false } } s.prof.nominal

/-- Deal with a token that a heater has just returned (R104). -/
def State.tokenReturned (s : State) : State :=
  if s.thu.releasePending then s.releaseToken else s.serveHead

/-- A heater leaves the wait queue; those behind it keep their order (R104). -/
def State.leaveQueue (s : State) (i : Socket) : State :=
  { s with thu := { s.thu with waitQueue := s.thu.waitQueue.filter (· != i) } }

/-- A heater ends what it does in its period: an ON heater returns its token, a WAITING heater leaves the queue
(R100, R102). -/
def State.endHeating (s : State) (i : Socket) : State :=
  match s.thu.heaters[i].phase with
  | .on => (s.modHeater i turnOff).tokenReturned
  | .waiting => (s.modHeater i turnOff).leaveQueue i
  | _ => s

/-- Force a heater off (R100). -/
def State.forceOff (s : State) (i : Socket) : State :=
  (s.modHeater i (fun h => { h with onTime := 0, inForce := 0 })).endHeating i

/-- A heater at its period start: its on-time comes into force, and the next period start is set (R101, R102). -/
def latch (period : Nat) (h : Heater) : Heater := { h with inForce := h.onTime, nextStart := some (msTicks period) }

/-- A heater waits for a token (R102). -/
def waitToken (h : Heater) : Heater := { h with phase := .waiting, onLeft := none }

/-- A heater's period starts (R102): it latches its on-time, then takes a free token, waits, or stays off. -/
def State.startPeriod (s : State) (i : Socket) : State :=
  let s := s.modHeater i (latch s.prof.heaterPeriod)
  if s.thu.heaters[i].inForce = 0 then s.modHeater i turnOff
  else if s.thu.hasFree then s.modHeater i turnOn
  else State.modHeater { s with thu := { s.thu with waitQueue := s.thu.waitQueue ++ [i] } } i waitToken

/-- A granted HEATER need adds one token to the pool, dealt with under steps 2 and 3 of R104 (R103, R106). -/
def State.addToken (s : State) : State :=
  State.serveHead { s with thu := { s.thu with tokens := s.thu.tokens + 1 } }

/-! ### Regulation -/

/-- The sub-states in which a socket may be heating-eligible (R99). -/
def State.heats (s : State) : Bool :=
  match s.rcu.state with
  | .active => s.rcu.sub != some .recovering && s.rcu.sub != none
  | .windDown => !s.rcu.poweringDown
  | _ => false

/-- A socket is heating-eligible (R99). -/
def State.eligible (s : State) (i : Socket) : Bool :=
  s.heats && ((s.rcu.entry s.rcu.phase).any PlanEntry.heater) &&
  (s.socketState i == .settled || s.socketState i == .running)

/-- A WINDOW reading judged against the middle of the window it was classed against, and the other bands (R96, R99; log entry
15): none forces the heater off. -/
def newOnTime (p : Profile) (h : Heater) : Option Nat :=
  match h.band with
  | .cold => some (min (h.onTime + 2 * p.heaterStep) p.heaterPeriod)
  | .window =>
    if 2 * h.lastTemp < h.window.1 + h.window.2 then some (min (h.onTime + p.heaterStep) p.heaterPeriod)
    else some (min (h.onTime - p.heaterStep) p.heaterPeriod)
  | .warm | .trip | .unknown => none

/-- Regulate one heating-eligible socket at a scan completion (R99). -/
def State.regulate (s : State) (i : Socket) : State :=
  if s.eligible i then
    match newOnTime s.prof s.thu.heaters[i] with
    | some t => s.modHeater i (fun h => { h with onTime := t })
    | none => s.forceOff i
  else s

/-- The on-times at a scan completion, and their posting to the records (R99, R109, R136). -/
def State.regulateAll (s : State) : State :=
  let s := allSockets.foldl State.regulate s
  s.mapRecords (fun i r => { r with onTime := s.thu.heaters[i].onTime })

/-- A socket that is not heating-eligible has an on-time of 0 (R99). -/
def State.dropIneligible (s : State) : State :=
  s.mapHeaters (fun i h => if s.eligible i then h else { h with onTime := 0 })

/-- The token count check of a mark in ACTIVE (R105). -/
def State.tokenCheck (s : State) : State :=
  let wanted := min s.prof.maxTokens
    (allSockets.filter (fun i => s.eligible i && s.thu.heaters[i].onTime != 0)).length
  if s.thu.tokens < wanted then
    State.placeNeed { s with thu := { s.thu with releasePending := false } } .heater
  else if s.thu.tokens = wanted then
    State.withdraw { s with thu := { s.thu with releasePending := false } } .heater
  else
    let s := s.withdraw .heater
    if s.thu.releasePending then s
    else if s.thu.hasFree then s.releaseToken
    else { s with thu := { s.thu with releasePending := true } }

/-! ### The schedule -/

/-- Every heater STOPPED with no period running (R101). -/
def stopHeater (h : Heater) : Heater := { h with phase := .stopped, nextStart := none, onLeft := none }

/-- A heater under a new anchor: stopped until its first period start (R101). -/
def anchorHeater (period : Nat) (i : Socket) (h : Heater) : Heater :=
  { stopHeater h with nextStart := some (usTicks (i.val * period * 1000 / 16)) }

/-- Set a new schedule anchor at a mark: every period in progress ends, a token returned under a pending release is
released, and heater 0 starts its first period at once (R101, R104). -/
def State.setAnchor (s : State) : State :=
  let pendingReturn := s.thu.releasePending && s.thu.onCount != 0
  let s := s.mapHeaters (anchorHeater s.prof.heaterPeriod)
  let s := { s with thu := { s.thu with waitQueue := [], anchor := some s.biu.roundNumber } }
  let s := if pendingReturn then s.releaseToken else s
  s.startPeriod 0

/-- The schedule stops on a departure from ACTIVE and WINDDOWN (R101). -/
def State.stopSchedule (s : State) : State :=
  let s := s.mapHeaters (fun _ h => stopHeater h)
  { s with thu := { s.thu with waitQueue := [], anchor := none } }

/-- A heater when all heating ends (R107). -/
def endHeater (h : Heater) : Heater := { stopHeater h with onTime := 0, inForce := 0, tripStreak := 0 }

/-- Heating ends for the whole board: lines off, on-times 0, queue empty, schedule stopped, T = 0 (R107). -/
def State.stopHeating (s : State) : State :=
  let s := s.mapHeaters (fun _ h => endHeater h)
  { s with thu := { s.thu with waitQueue := [], anchor := none, tokens := 0, releasePending := false } }

/-! ### Conversions and scans -/

/-- The input of a conversion slot (R80, R81): the fast list in its fixed order, then the channels of a scan in
progress, one to a slot in ascending order, and no input while there is none to convert. -/
def Scanner.slotInput (c : Scanner) (slot : Nat) : Option ScanInput :=
  if h : slot < 16 then some (.current ⟨slot, h⟩)
  else if slot = 16 then some (.rail .a)
  else if slot = 17 then some (.rail .b)
  else if slot = 18 then some (.rail .c)
  else if slot = 19 then some .bulk
  else if slot = 20 then some .board
  else if h : c.scan ≠ none ∧ c.channel < 16 then some (.temperature ⟨c.channel, h.2⟩)
  else none

/-- The input whose conversion ends at this instant, its reading not yet handed over (R80, R81). -/
def State.ending (s : State) : Option ScanInput :=
  if s.running = true ∧ s.scanner.place % Config.conversionTicks = 0 then s.scanner.converting else none

/-- The reading of the conversion that ends is handed over, and is not handed over again (R80). -/
def State.handed (s : State) : State := { s with scanner := { s.scanner with converting := none } }

/-- Hand a reading to its user (R80): the reading of an input counts at the end of its conversion, once, and at no other
time. -/
def State.handOver (s : State) (input : ScanInput) (user : State → State) : State :=
  if s.ending = some input then user s.handed else s

/-- Channel 15 of the scan in progress is converted: the scan is at its completion (R81, R94). -/
def State.scanEnds (s : State) : Bool := s.running && s.scanner.scan.isSome && s.scanner.channel == 16

/-- 25 ns of the scanner: at the start of a conversion slot the slot's input goes into conversion (R80, R81). A temperature
slot that starts at the very instant of a scan's request, or of the completion before a held one, converts the scan's channel
0: whether such a slot starts after the request is left open, and this is the model's choice (log entry 22). -/
def Scanner.advance (c : Scanner) : Scanner :=
  { c with converting := if c.place % Config.conversionTicks = 0 then c.slotInput (c.place / Config.conversionTicks)
                         else c.converting
           place := (c.place + 1) % Config.scanFrameTicks }

/-- Request a temperature scan: it starts if none is in progress, is held otherwise, and merges with a held one
(R81, R94). -/
def State.requestScan (s : State) (kind : ScanKind) : State :=
  match s.scanner.scan with
  | none => { s with scanner := { s.scanner with scan := some kind, channel := 0 } }
  | some _ => { s with scanner := { s.scanner with held := some (if kind = .mark then .mark else s.scanner.held.getD .half) } }

/-- A scan completes; the held one begins (R81). -/
def State.nextScan (s : State) : State :=
  { s with scanner := { s.scanner with scan := s.scanner.held, channel := 0, held := none } }

/-- The scanner stops (R80, R94). The spec does not say where its frame place and its requests then stand; they go back
to their values at rest, the model's choice (log entry 35). -/
def State.stopScanner (s : State) : State :=
  { s with scanner := { Scanner.initial with conversions := s.scanner.conversions } }

/-! ### Figures for the frame -/

/-- The mean duty in percent over the heating-eligible sockets (R108). -/
def State.meanDuty (s : State) : Nat :=
  let eligible := allSockets.filter s.eligible
  (eligible.map (fun i => s.thu.heaters[i].onTime)).sum * 100 / (eligible.length * s.prof.heaterPeriod)

end Sys2Proof.Machine
end

