-- ==== Sys2Proof/Machine/Wire.lean ====
section
/-! DEFINITION. The levels on CBD and on the profile port, as the station drives and reads them (R1, R2, R3, R11, R173,
R175). -/

namespace Sys2Proof.Machine

/-! ### Bytes on CBD -/

/-- The ten levels of a byte on CBD: a low start bit, the data bits most significant first, a high stop bit (R2). -/
def wireByte (b : Byte) : List Bool := false :: ([7, 6, 5, 4, 3, 2, 1, 0].map b.getLsbD ++ [true])

/-- A byte from the ten levels sampled at the middle of its bits; none is a framing error (R2). -/
def readWireByte : List Bool → Option Byte
  | [false, b7, b6, b5, b4, b3, b2, b1, b0, true] =>
    some (BitVec.ofNat 8 (bit b7 7 + bit b6 6 + bit b5 5 + bit b4 4 + bit b3 3 + bit b2 2 + bit b1 1 + bit b0 0))
  | _ => none

/-- The ticks of a bit time: 1 µs at 1 Mbit/s, half of it at 2 Mbit/s (R2). -/
def bitTicks (rate : Bool) : Nat := if rate then 20 else 40

/-- The rate strap as latched; low before (R174). -/
def State.rate (s : State) : Bool := (s.ldr.straps.map Straps.rate).getD false

/-- The station sends a status frame on CBD (R1, R11). -/
def State.sends (s : State) : Bool := s.biu.tx == .sending || s.biu.tx == .carriedOver

/-- The ticks from the slot start to the end of the frame being sent: 20 µs, then ten bit times a byte (R2, R3, R11). -/
def State.frameTicks (s : State) : Nat :=
  usTicks Config.markPulseUs + s.biu.txFrame.length * 10 * bitTicks s.rate

/-- The level the station puts on CBD, high where it has released the line (R1, R2, R11). -/
def State.cbdLevel (s : State) : Bool :=
  if s.sends = true ∧ usTicks Config.markPulseUs ≤ s.biu.txClock then
    (s.biu.txFrame.flatMap wireByte).getD ((s.biu.txClock - usTicks Config.markPulseUs) / bitTicks s.rate) true
  else true

/-- The frame's last stop bit ends with this tick (R14). -/
def State.frameEnds (s : State) : Bool := s.sends && s.biu.txClock + 1 == s.frameTicks

/-! ### Places in the round -/

/-- The start of a slot, in whole µs after the mark that began the round; slot 31 ends where a slot 32 would begin (R3). -/
def State.slotBegin (s : State) (slot : Nat) : Nat := slot * (s.prof.period * 1000) / 32

/-- The ticks since the mark that began the round, by the round timer (R3, R4). -/
def State.elapsed (s : State) : Nat := usTicks (s.prof.period * 1000 - s.biu.roundTimer) + s.biu.usPhase

/-- This instant is the start of the own slot (R11). -/
def State.atSlotStart (s : State) : Bool := s.elapsed == usTicks (s.slotBegin s.slot.val)

/-- A frame of `n` bytes whose last byte ends at this instant has its first start bit in a slot and ends before the slot
does (R2, R12; log entry 39). -/
def State.inSlot (s : State) (slot n : Nat) : Bool :=
  decide (usTicks (s.slotBegin slot) + n * 10 * bitTicks s.rate ≤ s.elapsed) &&
  decide (s.elapsed < usTicks (s.slotBegin (slot + 1)))

/-- The own frame's last stop bit has just ended (R14). -/
def State.frameEnded (s : State) : Bool := s.sends && s.biu.txClock == s.frameTicks

/-! ### The profile port -/

/-- The read request the LDR sends: 03 hexadecimal and address 0 (R175). -/
def readRequest : List Byte := [3, 0, 0, 0]

/-- The ticks from the select's assertion to the end of a load that reads `n` bytes of image, the request's bytes first
(R175). That the clock starts with the select is the model's choice (log entry 19). -/
def loadTicks (n : Nat) : Nat := Config.portByteTicks * (readRequest.length + n)

/-- The load of an image from this memory ends at this instant (R175). -/
def State.loadEnds (s : State) (memory : List Byte) : Bool :=
  s.rcu.state == .loading && s.ldr.portClock == loadTicks (bytesRead memory)

/-- The port's clock: 10 MHz while the select is asserted; it idles low (R173, R175). That it starts with the select's assertion
and is low for the first 50 ns of each 100 ns and high for the other 50 is the model's choice, for R175 gives neither the
time from the select to the clock nor the clock's duty (log entry 19). -/
def State.portClockLine (s : State) : Bool := s.ldr.portSelect && decide (2 ≤ s.ldr.portClock % 4)

/-- The port's data output: the read request, most significant bit first, changed on the falling edges of the clock
(R175). It is low once the request is out, and while the select is released: the model's choice (log entry 19). -/
def State.portDataLine (s : State) : Bool :=
  s.ldr.portSelect &&
  (s.ldr.portSent.flatMap (fun b => [7, 6, 5, 4, 3, 2, 1, 0].map b.getLsbD)).getD (s.ldr.portClock / 4) false

end Sys2Proof.Machine
end

