-- ==== Sys2Proof/Machine/Clock.lean ====
section
/-! DEFINITION. The station's own clock: what a step without a command does (R4, R11, R72, R76, R80, R81, R83, R101, R102,
R112, R175; log entry 1). What falls due at an instant joins the queue as the command of its row, and once nothing is
due 25 ns pass. -/

namespace Sys2Proof.Machine

/-- Commands that fall due join the queue. -/
def State.queueUp (s : State) (cs : List Instr) : State := { s with pending := s.pending ++ cs }

/-! ### What is due at this instant -/

/-- The row of a reading (R80, R81). -/
def ScanInput.reading (value : Half) : ScanInput → Instr
  | .current i => .socketCurrentReading i value
  | .rail r => .railReading r value
  | .bulk => .bulkReading value
  | .board => .boardCurrentReading value
  | .temperature i => .temperatureReading i value

/-- The event of a rail whose timer has run out (R72, R74, R76). -/
def State.railDue (s : State) (r : Rail) : Option Instr :=
  let u := s.rlu.rails[r.ix]
  if u.timer = some 0 then
    match u.state with
    | .ramping | .retargeting => some (.railSettleTimeout r)
    | .falling => some (.railFallTimeout r)
    | _ => none
  else none

/-- The events of the timers that have run out, in the order they join the queue (log entry 1). -/
def State.timersDue (s : State) : List Instr :=
  (allSockets.filter (fun i => s.rlu.sockets[i].settle == some 0)).map Instr.socketSettleEnd ++
  allRails.filterMap s.railDue ++
  (allSockets.filter (fun i => s.thu.heaters[i].onLeft == some 0)).map Instr.heaterOnEnd ++
  (allSockets.filter (fun i => s.thu.heaters[i].nextStart == some 0)).map Instr.heaterPeriodStart

/-- A timer that has run out and been signalled is stopped. -/
def restTimer (t : Option Nat) : Option Nat := t.filter (· != 0)

/-- Every timer that has run out is stopped. -/
def State.restTimers (s : State) : State :=
  let s := s.mapPower (fun _ p => { p with settle := restTimer p.settle })
  let s := s.mapRails (fun u => { u with timer := restTimer u.timer })
  s.mapHeaters (fun _ h => { h with nextStart := restTimer h.nextStart, onLeft := restTimer h.onLeft })

/-! ### 25 ns -/

/-- A timer runs down by one tick. -/
def countDown (t : Option Nat) : Option Nat := t.map (· - 1)

/-- One tick passes on every timer of the rails, the sockets and the heaters, and what was settled at the instant just gone
is settled no longer now (R91). -/
def State.countTimers (s : State) : State :=
  let s := s.mapPower (fun _ p => { p with settle := countDown p.settle, settledNow := false })
  let s := s.mapRails (fun u => { u with timer := countDown u.timer })
  s.mapHeaters (fun _ h => { h with nextStart := countDown h.nextStart, onLeft := countDown h.onLeft })

/-- The round timer runs, and its µs ends with this tick (R4). -/
def State.usEnds (s : State) : Bool :=
  s.running && decide (s.biu.roundTimer ≠ 0) && s.biu.usPhase + 1 == Config.ticksPerUs

/-- The events of the round timer at the end of this tick: the slot start, the half-round and the expiry
(R4, R11, R94). -/
def State.roundDue (s : State) : List Instr :=
  if s.usEnds then
    let left := s.biu.roundTimer - 1
    (if s.transmits = true ∧ s.prof.period * 1000 - left = s.slotBegin s.slot.val then [.statusFrameBuild] else []) ++
    (if s.biu.synced = true ∧ left = s.prof.period * 500 then [.halfRoundScan] else []) ++
    (if left = 0 then [.roundTimerExpiry] else [])
  else []

/-- One tick of the round timer, of the mark pulse and of the frame being sent (R4, R11). -/
def State.countBiu (s : State) : State :=
  { s with biu := { s.biu with
      roundTimer := if s.usEnds then s.biu.roundTimer - 1 else s.biu.roundTimer
      usPhase := if s.running = true ∧ s.biu.roundTimer ≠ 0 then (s.biu.usPhase + 1) % Config.ticksPerUs else s.biu.usPhase
      cbmPulse := s.biu.cbmPulse - 1
      txClock := if s.sends then s.biu.txClock + 1 else s.biu.txClock } }

/-- One tick of the scanner and of the profile port (R80, R175). -/
def State.countPorts (s : State) : State :=
  { s with scanner := if s.running then s.scanner.advance else s.scanner
           ldr := { s.ldr with portClock := if s.ldr.portSelect then s.ldr.portClock + 1 else s.ldr.portClock } }

/-- What joins the queue as 25 ns end: the round timer's events, the end of the own frame, and the end of a pass. -/
def State.tickDue (s : State) (passEnds : Bool) : List Instr :=
  s.roundDue ++ (if s.frameEnds then [.statusFrameEnd] else []) ++ (if passEnds then [.passEnd] else [])

/-- 25 ns pass: one addition of the DUT clock's accumulator, and one tick of every timer. -/
def State.passTime (s : State) : State :=
  let r := s.dutTick
  State.queueUp r.1.countTimers.countBiu.countPorts (s.tickDue r.2)

/-- A memory that the load has read to the longest length there is: its header gives 16 384, and whatever else it holds, that
is a profile error, for no counts in range give such a length (R175, R177, R187; log entry 19). -/
def fullMemory : List Byte := [0x40, 0x00]

/-- A step without a command. A conversion that ends at this instant, its reading not yet handed over, is handed over with
a value of which nothing is known (log entry 22); then a scan completes; then the timers that have run out are
signalled; then a load that no command has ended ends with the longest image (log entry 19); and once nothing is due, 25 ns
pass. -/
def State.tick (s : State) : State :=
  match s.ending with
  | some input =>
    State.queueUp { s with scanner := { s.scanner with conversions := s.scanner.conversions + 1 } }
      [input.reading (Config.conversion s.scanner.conversions)]
  | none =>
    if s.scanEnds then s.queueUp [.scanCompletion]
    else if s.timersDue = [] then
      if s.loadEnds fullMemory then s.queueUp [.profileLoadEnd fullMemory] else s.passTime
    else s.restTimers.queueUp s.timersDue

end Sys2Proof.Machine
end

