-- ==== Sys2Proof/Machine/Rails.lean ====
section
/-! DEFINITION. The Rail Unit's operations: rails, socket switches, trips and failures (chapter 4, and R135). -/

namespace Sys2Proof.Machine

/-! ### Socket switches -/

/-- The switch opens, and the socket's timers, checks and streaks stop (R89, R90). -/
def openPower (p : SocketPower) : SocketPower :=
  { p with closed := false, debounce := 0, openStreak := 0, settle := none, openCheck := none, retryWait := none
           settledNow := false }

/-- A heater with no TRIP reading counted (R97). -/
def noTrips (h : Heater) : Heater := { h with tripStreak := 0 }

/-- What a socket's leaving the powered states or RETRY does outside its record: the switch opens, the heater is
forced off, the trip streak is 0, the socket leaves the membership set, and its gate and its powered round end
(R89, R90, R97, R119, R138, R140). -/
def State.dropSocket (s : State) (i : Socket) : State :=
  let s := (s.modPower i openPower).forceOff i
  let s := s.modHeater i noTrips
  { s with ptu := { s.ptu with members := s.ptu.members.set i false }
           acu := { s.acu with socketGate := s.acu.socketGate.set i false, powered := s.acu.powered.set i false } }

/-- The allowance a socket holds is released and is no longer in force (R65, R90). -/
def State.releaseAllowance (s : State) (i : Socket) : State :=
  State.modPower (s.release s.rlu.sockets[i].allowance) i (fun p => { p with allowance := 0, threshold := 0 })

/-- A record takes another state (R133). -/
def SocketRecord.become (st : SocketState) (r : SocketRecord) : SocketRecord := { r with state := st }

/-- The switch closes on a grant or at the end of a retry wait (R83, R86, R89): POWERING, with the allowance and the
trip threshold at the level in force for sockets and the settle timer started. -/
def State.closeSwitch (s : State) (i : Socket) : State :=
  let a := s.prof.allowance[s.levelInForce]
  let s := s.modPower i (fun _ =>
    { closed := true, allowance := a, threshold := a, debounce := 0, openStreak := 0
      settle := some (msTicks s.prof.socketSettle), openCheck := none, retryWait := none, settledNow := false })
  s.modRecord i (SocketRecord.become .powering)

/-! ### Trips and failures -/

/-- A record enters FAILED with its failure part (R135). -/
def SocketRecord.fail (r : SocketRecord) (kind : FailKind) (phase : Nat) : SocketRecord :=
  { r with state := .failed, source := none, failure := some { kind := kind, phase := phase, credit := r.creditAt phase } }

/-- A socket fails for good: its entry is written, it enters FAILED, the switch opens, the allowance is released and
the heater is forced off (R84, R85, R89, R97, R123, R135, R152). -/
def State.failSocket (s : State) (i : Socket) (kind : FailKind) (finding : Finding) : State :=
  let s := s.writeSocketEntry i finding true
  let s := s.modRecord i (fun r => r.fail kind s.rcu.phase)
  (s.dropSocket i).releaseAllowance i

/-- A record enters RETRY (R89, R136). -/
def SocketRecord.retry (used : Nat) (r : SocketRecord) : SocketRecord := { r with state := .retry, retries := used }

/-- An overcurrent trip (R89): RETRY with the allowance kept while retries are left, FAILED otherwise. A trip finds
only POWERING, SETTLED and RUNNING sockets (R133, R134). -/
def State.trip (s : State) (i : Socket) (detail : Nat) : State :=
  if (s.socketState i).powered then
    let used := s.acu.records[i].retries
    if used < s.prof.retryLimit then
      let s := s.modRecord i (SocketRecord.retry (used + 1))
      let s := s.writeSocketEntry i (.overcurrent detail (used + 1)) false
      let s := s.dropSocket i
      s.modPower i (fun p => { p with retryWait := some s.prof.retryWait })
    else s.failSocket i .overcurrent (.overcurrent detail used)
  else s

/-- A socket becomes SETTLED (R84), and RUNNING at once while the engine is STATIC (R121). No trip follows at this instant
(R91; log entry 40). -/
def State.settleSocket (s : State) (i : Socket) : State :=
  let s := s.modPower i (fun p => { p with openCheck := none, settledNow := true })
  s.modRecord i (SocketRecord.become (if s.ptu.engine = .static then .running else .settled))

/-- A reading of a socket in its open check (R84). -/
def State.checkOpen (s : State) (i : Socket) (current : Half) (low : Nat) : State :=
  if s.prof.openFloor ≤ current.toNat then s.settleSocket i
  else if low + 1 < 3 then s.modPower i (fun p => { p with openCheck := some (low + 1) })
  else s.failSocket i .openLoad (.openLoad current)

/-- A reading of a RUNNING socket moves its open streak (R85). -/
def State.watchOpen (s : State) (i : Socket) (current : Half) : State :=
  if s.prof.openFloor ≤ current.toNat then s.modPower i (fun p => { p with openStreak := 0 })
  else if s.rlu.sockets[i].openStreak + 1 < 16 then
    s.modPower i (fun p => { p with openStreak := p.openStreak + 1 })
  else s.failSocket i .openLoad (.openLoad current)

/-- The open supervision of a reading: the check of a POWERING socket, the streak of a RUNNING one (R84, R85). A reading whose
conversion ends at the very instant the settle timer runs out counts where its row is taken after the timer's: the model's
choice (log entry 41). -/
def State.superviseOpen (s : State) (i : Socket) (current : Half) : State :=
  match s.socketState i with
  | .powering =>
    match s.rlu.sockets[i].openCheck with
    | some low => s.checkOpen i current low
    | none => s
  | .running => s.watchOpen i current
  | _ => s

/-- The overcurrent and open supervision of a reading of a socket whose switch is closed (R84, R85, R87). The trip is
judged before the open check (log entry 12). -/
def State.superviseCurrent (s : State) (i : Socket) (current : Half) : State :=
  if s.rlu.sockets[i].closed then
    if s.rlu.sockets[i].threshold < current.toNat then
      if s.rlu.sockets[i].debounce + 1 < s.prof.tripDebounce then
        State.superviseOpen (s.modPower i (fun p => { p with debounce := p.debounce + 1 })) i current
      else s.trip i current.toNat
    else State.superviseOpen (s.modPower i (fun p => { p with debounce := 0 })) i current
  else s

/-! ### Rails -/

/-- A reading is within tolerance of a voltage (R70). -/
def inTolerance (tolerance reading voltage : Nat) : Bool :=
  voltage ≤ reading + tolerance && reading ≤ voltage + tolerance

/-- A rail starts at its level for the phase index (R71). -/
def State.startRail (s : State) (r : Rail) : State :=
  s.modRail r (fun _ => { state := .ramping, level := s.rcu.railLevel s.rcu.phase r, streak := 0,
                          timer := some (msTicks s.prof.railSettle[r.ix]) })

/-- A rail is UP at its level, with a streak of 0 (R71, R73, R74). -/
def State.railIsUp (s : State) (r : Rail) : State :=
  s.modRail r (fun u => { u with state := .up, streak := 0, timer := none })

/-- The rail after one in the order A, B, C (R71). -/
def nextRail : Rail → Option Rail
  | .a => some .b
  | .b => some .c
  | .c => none

/-- A granted RAILBASE need is handed to the RLU: rail A starts, or the start is deferred while bulk is low (R71). -/
def State.startBringup (s : State) : State :=
  if s.rlu.bulkLow then { s with rlu := { s.rlu with deferred := true } } else s.startRail .a

/-- The retarget completes (R42, R67, R75): every held allowance and threshold takes its value at the target level, and
the own held becomes what R66 gives there. -/
def State.retargetComplete (s : State) (target : Nat) : State :=
  let level := s.rcu.levelA target
  let a := s.prof.allowance[level]
  let s := s.mapPower (fun i p => if (s.socketState i).holds then { p with allowance := a, threshold := a } else p)
  { s with rcu := { s.rcu with transit := some { target := target, stage := .complete } }
           bdu := { s.bdu with ownHeld := s.prof.base[level] + s.holders * a + s.thu.tokens * s.prof.nominal } }

/-- Take the rails of a retarget in turn (R74): an unchanged level is passed over, a changed one starts RETARGETING,
and when none is left the retarget completes. -/
def State.takeRetarget (s : State) (target : Nat) : List Rail → State
  | [] => s.retargetComplete target
  | r :: rest =>
    if s.rcu.railLevel target r = s.rcu.railLevel s.rcu.phase r then s.takeRetarget target rest
    else s.modRail r (fun _ => { state := .retargeting, level := s.rcu.railLevel target r, streak := 0,
                                 timer := some (msTicks s.prof.railSettle[r.ix]) })

/-- The retarget starts (R41, R74, R86): from here every holding socket stands at the greater of its two allowances. -/
def State.startRetarget (s : State) (target : Nat) : State :=
  let level := max (s.rcu.levelA s.rcu.phase) (s.rcu.levelA target)
  let a := s.prof.allowance[level]
  let s := s.mapPower (fun i p => if (s.socketState i).holds then { p with allowance := a, threshold := a } else p)
  State.takeRetarget { s with rcu := { s.rcu with transit := some { target := target, stage := .retargeting } } }
    target allRails

/-- The rails after one in the order A, B, C. -/
def railsAfter : Rail → List Rail
  | .a => [.b, .c]
  | .b => [.c]
  | .c => []

/-- A RETARGETING rail has become UP: the next rail is taken (R74, R75). -/
def State.afterRetargeted (s : State) (r : Rail) : State :=
  match s.rcu.transit with
  | some t => if t.stage = .retargeting then s.takeRetarget t.target (railsAfter r) else s
  | none => s

/-- Every rail disabled at once, with no order (R77); the board overcurrent streak is then 0 (R69) and a deferred start
is discarded. -/
def State.railsDisabled (s : State) : State :=
  { s with rlu := { s.rlu with rails := Vector.replicate 3 RailUnit.initial, deferred := false, boardStreak := 0 } }

end Sys2Proof.Machine
end

