-- ==== Sys2Proof/Machine/RunControl.lean ====
section
/-! DEFINITION. Run control's actions between the blocks: interruptions, recovery, transitions, the winddown and the
entry into MUTED (chapter 2; R15, R24). -/

namespace Sys2Proof.Machine

/-! ### Removing all power -/

/-- The power side of a socket when everything is removed (R77). -/
def unpowered (_ : SocketPower) : SocketPower := SocketPower.initial

/-- What an interruption does to the board, in ACTIVE and in WINDDOWN alike (R44, R47, R77, R107, R125): switches
open, heaters off, rails disabled, the pass abandoned, the queue and the own held emptied, every gate closed. -/
def State.removePower (s : State) : State :=
  let s := (s.mapPower (fun _ p => unpowered p)).stopHeating.railsDisabled.abandon
  let s := s.clearQueue.releaseAll
  { s with acu := { s.acu with stationGate := false, socketGate := Vector.replicate 16 false,
                               powered := Vector.replicate 16 false } }

/-- Sockets that hold an allowance become PARKED (R44, R77). -/
def State.parkSockets (s : State) : State :=
  s.mapRecords (fun _ r => if r.state.holds then { r with state := .parked } else r)

/-- Sockets that hold an allowance, and PARKED ones, become OFF (R47, R49 step 2, R77). -/
def State.socketsOff (s : State) : State :=
  s.mapRecords (fun _ r => if r.state.holds ∨ r.state = .parked then { r with state := .off } else r)

/-- PARKED sockets become OFF when the run ends STOPPED (R45, R137). -/
def State.parkedOff (s : State) : State :=
  s.mapRecords (fun _ r => if r.state = .parked then { r with state := .off } else r)

/-! ### Interruptions -/

/-- A pending ADVANCE is kept by an interruption only when it names the phase index (R35, R43, R44). -/
def keepAdvance (phase : Nat) (advance : Option Nat) : Option Nat := if advance = some phase then advance else none

/-- The count rises, and what was under way is abandoned (R44). -/
def Rcu.interrupted (r : Rcu) : Rcu :=
  { r with intCount := r.intCount + 1, remembered := none, transit := none, advance := keepAdvance r.phase r.advance }

/-- RECOVERING is entered with a cause (R45, R46). -/
def Rcu.recover (r : Rcu) (cause : IntCause) : Rcu :=
  { r with sub := some .recovering, recoverMarks := 0, recoverBulk := cause == .bulk, recoverUnheard := cause == .unheard }

/-- The run is over: DONE with an end cause (R45, R47, R49). -/
def State.enterDone (s : State) (cause : Option EndCause) : State :=
  { s with rcu := { s.rcu with state := .done, sub := none, remembered := none, transit := none, advance := none,
                               endCause := cause, poweringDown := false } }

/-- The action of an interruption taken in ACTIVE outside RECOVERING, with the comparison of R45 (R44, R45). -/
def State.interruptActive (s : State) (cause : IntCause) : State :=
  let s := s.removePower.parkSockets
  let s := State.writeInterruption { s with rcu := s.rcu.interrupted } cause
  if s.prof.interruptionLimit < s.rcu.intCount then s.parkedOff.enterDone (some .stopped)
  else { s with rcu := s.rcu.recover cause }

/-- A signal taken in RECOVERING: an entry with the count unchanged, and its condition added (R46). -/
def State.interruptRecovering (s : State) (cause : IntCause) : State :=
  let s := s.writeInterruption cause
  { s with rcu := { s.rcu with recoverBulk := s.rcu.recoverBulk || cause == .bulk
                               recoverUnheard := s.rcu.recoverUnheard || cause == .unheard } }

/-- An interruption in WINDDOWN completes the power-down at once (R47). -/
def State.interruptWinddown (s : State) (cause : IntCause) : State :=
  let s := s.removePower.socketsOff
  let s := State.writeInterruption { s with rcu := { s.rcu with intCount := s.rcu.intCount + 1 } } cause
  s.enterDone s.rcu.endCause

/-- An interruption signal reaches the RCU (R44, R46, R47). -/
def State.interrupt (s : State) (cause : IntCause) : State :=
  match s.rcu.state with
  | .active => if s.rcu.sub = some .recovering then s.interruptRecovering cause else s.interruptActive cause
  | .windDown => s.interruptWinddown cause
  | .idle | .done => s.writeInterruption cause
  | _ => s

/-! ### The winddown -/

/-- Steps 4 and 5 of the power-down: everything still held is released and the station enters DONE (R49, R68). -/
def State.finishWinddown (s : State) : State :=
  if s.rcu.state = .windDown ∧ s.rcu.poweringDown = true then s.releaseAll.enterDone s.rcu.endCause else s

/-- Step 3 of the winddown: take the rails in turn (R76). A rail that is OFF is down at once. -/
def State.takeFalling (s : State) : List Rail → State
  | [] => s.finishWinddown
  | r :: rest =>
    if s.railState r = .off then s.takeFalling rest
    else s.modRail r (fun u => { u with state := .falling, streak := 0
                                        timer := some (msTicks s.prof.railSettle[r.ix]) })

/-- The rails after one in the order C, B, A (R76). -/
def railsBelow : Rail → List Rail
  | .c => [.b, .a]
  | .b => [.a]
  | .a => []

/-- A FALLING rail is down: it is OFF with RAIL_LVL at 0, and the next rail is taken (R76). The board overcurrent
streak is 0 once all rails are OFF (R69). -/
def State.railDown (s : State) (r : Rail) : State :=
  let s := s.modRail r (fun _ => RailUnit.initial)
  let s := if s.railsOff then { s with rlu := { s.rlu with boardStreak := 0 } } else s
  s.takeFalling (railsBelow r)

/-- Step 1 of the winddown: heaters off, tokens returned and released (R49, R68, R107). -/
def State.windStep1 (s : State) : State := (s.release (s.thu.tokens * s.prof.nominal)).stopHeating

/-- Step 2 for one socket (R49, R65, R90): the switch opens, the allowance is released and the socket becomes OFF. -/
def State.windSocket (s : State) (i : Socket) : State :=
  if (s.socketState i).holds then
    State.modRecord ((s.dropSocket i).releaseAllowance i) i (SocketRecord.become .off)
  else if s.socketState i = .parked then s.modRecord i (SocketRecord.become .off)
  else s

/-- The power-down of a winddown: steps 1 and 2, then the rails from C (R49). -/
def State.powerDown (s : State) : State :=
  let s := { s with rcu := { s.rcu with poweringDown := true } }
  let s := allSockets.foldl State.windSocket s.windStep1
  State.takeFalling { s with rlu := { s.rlu with deferred := false } } [.c, .b, .a]

/-- WINDDOWN is entered with a cause; the station gate closes, for the station leaves ACTIVE (R34, R48, R49, R139). -/
def State.enterWinddown (s : State) (cause : EndCause) : State :=
  let s := s.clearQueue
  { s with rcu := { s.rcu with state := .windDown, sub := none, remembered := none, transit := none, advance := none
                               endCause := some cause, poweringDown := false }
           acu := { s.acu with stationGate := false } }

/-! ### Transitions and the completion of a stop -/

/-- On stop completion in TRANSITION the delta is computed: a TRANSITION need is placed, or the retarget starts at once
(R40, R41). -/
def State.computeDelta (s : State) (target : Nat) : State :=
  if 0 < s.delta target then
    State.placeNeed { s with rcu := { s.rcu with transit := some { target := target, stage := .granting } } } .transition
  else s.startRetarget target

/-- The PTU reports a stop complete: TRANSITION and a plan-complete WINDDOWN wait for it, HELD does not (R124). -/
def State.stopComplete (s : State) : State :=
  match s.rcu.state with
  | .active =>
    match s.rcu.sub, s.rcu.transit with
    | some .transition, some t => if t.stage = .stopping then s.computeDelta t.target else s
    | _, _ => s
  | .windDown => if s.rcu.poweringDown then s else s.powerDown
  | _ => s

/-- A finish request (R124). -/
def State.requestFinish (s : State) : State :=
  match s.ptu.engine with
  | .playing => { s with ptu := { s.ptu with engine := .stopping, finishPending := true } }
  | .static => s.stopEngine.stopComplete
  | .stopping => s
  | .stopped => s.stopComplete

/-- TRANSITION toward a target is entered (R40). -/
def State.enterTransition (s : State) (target : Nat) : State :=
  State.requestFinish { s with rcu := { s.rcu with sub := some .transition
                                                   transit := some { target := target, stage := .stopping } } }

/-- A plan-complete winddown is entered: the pass in flight is finished first (R34, R49). -/
def State.completeRun (s : State) : State := (s.enterWinddown .complete).requestFinish

/-- ABORT is taken in ACTIVE: the pass is abandoned and the power-down starts at once (R48, R49). -/
def State.abortRun (s : State) : State := (s.abandon.enterWinddown .aborted).powerDown

/-! ### MUTED -/

/-- MUTED is entered (R24, R26, R111): the timer stops, both bus lines are released, the sub-state and what is pending
are discarded, the engine and the scanner stop, and the rest is held as it stands. A frame in progress ends with the release
of CBD, the model's choice between R11 and R24 (log entry 11). -/
def State.enterMuted (s : State) (cause : MuteCause) : State :=
  let s := s.abandon.stopScanner.stopSchedule
  { s with rcu := { s.rcu with state := .muted, muteCause := some cause, sub := none, remembered := none
                               transit := none, startPending := false, advance := none }
           biu := { s.biu with tx := .notSent, cbmPulse := 0 } }

/-- A slot clash at a mark (R15): an interruption first where a rail is not OFF or current is held, or in WINDDOWN. -/
def State.clash (s : State) : State :=
  match s.rcu.state with
  | .idle | .done => s.enterMuted .clash
  | .active =>
    if s.railsOff ∧ s.bdu.ownHeld = 0 then s.enterMuted .clash
    else (s.interrupt .unheard).enterMuted .clash
  | .windDown => (s.interrupt .unheard).enterMuted .clash
  | _ => s

end Sys2Proof.Machine
end

