-- ==== Sys2Proof/Machine/Flags.lean ====
section
/-! DEFINITION. The status frame: its flags, its fields and its bytes (R36, R60, R108, R143, R147, R166 to R172, R182,
R184, R185). -/

namespace Sys2Proof.Machine

/-! ### Flags -/

/-- The station's own hold flag (R37). -/
def State.holdFlag (s : State) : Bool := s.rcu.cmdHold || s.door || s.rlu.bulkLow

/-- The rack-conflict flag (R22, R168). -/
def State.rackConflict (s : State) : Bool :=
  allStations.any (fun k => !s.isOwn k && s.biu.peers[k].presence != .absent && s.biu.peers[k].rackDiffers)

/-- The shed-in-progress flag (R168). -/
def State.shedding (s : State) : Bool :=
  1 ≤ s.biu.unheardStreak ||
  (s.rcu.sub == some .recovering && s.rcu.recoverUnheard && s.biu.sinceUnheard < s.prof.lostThreshold)

/-- The flags byte (R168, R182). -/
def State.flagsByte (s : State) : Nat :=
  bit s.holdFlag 7 + bit s.acu.overflow 6 + bit (!s.acu.history.isEmpty) 5 + bit s.acu.readDue.isSome 4 +
  bit s.rackConflict 3 + bit s.biu.driftWarn 2 + bit s.biu.driftSevere 1 + bit s.shedding 0

/-! ### Vote, mask and amounts -/

/-- A socket counts toward the done vote (R36, R143). -/
def SocketState.votes : SocketState → Bool
  | .failed | .excluded => false
  | _ => true

/-- The done vote (R36). -/
def State.doneVote (s : State) : Bool :=
  s.rcu.state == .active &&
  (s.rcu.lateMark == some s.rcu.phase ||
   allSockets.all (fun i => !(s.socketState i).votes || s.target s.rcu.phase ≤ s.acu.records[i].creditAt s.rcu.phase))

/-- A mask of the sockets in one state, bit i for socket i (R147, R182). -/
def State.maskOf (s : State) (st : SocketState) : Nat :=
  (allSockets.map (fun i => bit (s.socketState i == st) i.val)).sum

/-- The asked value of a frame built now (R60). -/
def State.askNow (s : State) : Nat :=
  match s.bdu.queue with
  | [] => 0
  | n :: _ =>
    if s.rcu.sub = some .held ∨ s.rcu.sub = some .recovering then 0
    else
      match n with
      | .socket _ => if s.railsCarry then s.amount n else 0
      | _ => s.amount n

/-! ### Codes -/

/-- The state code of a transmitting state (R182). -/
def StationState.code : StationState → Nat
  | .active => 1
  | .windDown => 2
  | .done => 3
  | _ => 0

/-- The sub-state code (R182). -/
def subCodeOf : Option SubState → Nat
  | none => 0
  | some .bringUp => 1
  | some .running => 2
  | some .transition => 3
  | some .held => 4
  | some .recovering => 5

/-- The end-cause code (R182). -/
def endCodeOf : Option EndCause → Nat
  | none => 0
  | some .complete => 1
  | some .aborted => 2
  | some .stopped => 3

/-- The result code (R182). -/
def CmdResult.code : CmdResult → Nat
  | .none => 0
  | .accepted => 1
  | .refusedState => 2
  | .refusedArg => 3
  | .ignored => 4

/-- The cause code of an INTERRUPTION entry (R184). -/
def IntCause.code : IntCause → Nat
  | .rail => 1
  | .bulk => 2
  | .board => 3
  | .unheard => 4

/-- The socket state code of a reply (R185). -/
def SocketState.code : SocketState → Nat
  | .off => 0
  | .powering => 1
  | .settled => 2
  | .running => 3
  | .retry => 4
  | .parked => 5
  | .failed => 6
  | .excluded => 7

/-- The band code of a reply (R185). -/
def Band.code : Band → Nat
  | .cold => 0
  | .window => 1
  | .warm => 2
  | .trip => 3
  | .unknown => 4

/-- The qualifier code of a reply (R172, R185). -/
def SocketRecord.qualifier (r : SocketRecord) : Nat :=
  match r.state with
  | .excluded =>
    match r.source with
    | none => 0
    | some .profile => 1
    | some .command => 2
  | .failed =>
    match r.failure.map Failure.kind with
    | none => 0
    | some .openLoad => 3
    | some .overcurrent => 4
    | some .functional => 5
    | some .thermal => 6
  | _ => 0

/-- The kind code of a history entry (R184). -/
def Finding.code : Finding → Nat
  | .openLoad _ => 1
  | .overcurrent _ _ => 2
  | .functional _ _ => 3
  | .soft _ _ => 4
  | .thermal _ => 5
  | .sensor _ => 6
  | .interruption _ _ => 7

/-- The four detail bytes of a history entry (R184). -/
def Finding.detail : Finding → List Byte
  | .openLoad c => enc16 c.toNat ++ enc16 0
  | .overcurrent c n => enc16 c ++ enc8 n ++ enc8 0
  | .functional g inv => enc16 g.toNat ++ enc8 (bit inv 0) ++ enc8 0
  | .soft g inv => enc16 g.toNat ++ enc8 (bit inv 0) ++ enc8 0
  | .thermal t => encS16 t ++ enc16 0
  | .sensor c => enc16 c.toNat ++ enc16 0
  | .interruption c n => enc8 c.code ++ enc8 n ++ enc16 0

/-- A history entry's fourteen bytes (R184). -/
def Entry.bytes (e : Entry) : List Byte :=
  enc8 (bit e.final 7 + e.finding.code * 16 + (e.socket.map Fin.val).getD 0) ++ enc8 e.phase ++
  enc32 e.round.toNat ++ enc32 (e.credit.getD 0) ++ e.finding.detail

/-- The phase a reply reports: the failure phase when FAILED, the phase index otherwise (R146). -/
def SocketRecord.reportedPhase (r : SocketRecord) (phase : Nat) : Nat :=
  match r.state, r.failure with
  | .failed, some f => f.phase
  | _, _ => phase

/-- The credit a reply reports: at failure when FAILED, in the phase index otherwise (R146). -/
def SocketRecord.reportedCredit (r : SocketRecord) (phase : Nat) : Nat :=
  match r.state, r.failure with
  | .failed, some f => f.credit
  | _, _ => r.creditAt phase

/-- The twenty-four bytes of a socket record reply (R146, R172, R185). -/
def State.replyBytes (s : State) (i : Socket) : List Byte :=
  let r := s.acu.records[i]
  enc8 (bit r.soft 7 + r.band.code * 16 + i.val) ++
  enc8 (r.state.code * 32 + r.retries * 8 + r.qualifier) ++
  enc8 (r.streak * 16 + r.reportedPhase s.rcu.phase) ++
  enc32 (r.reportedCredit s.rcu.phase) ++ enc32 r.exposure ++ enc32 r.passCount.toNat ++
  enc16 r.mismatchCount.toNat ++ enc16 r.lastCurrent.toNat ++ encS16 r.lastTemp ++ enc16 r.onTime ++
  enc8 s.thu.heaters[i].sensorStreak

/-- The base part of a frame built now (R166 to R170, R182). -/
def State.baseBytes (s : State) : List Byte :=
  enc8 2 ++ enc8 s.slot.val ++ enc32 s.biu.roundNumber.toNat ++
  enc8 (s.rcu.state.code * 64 + subCodeOf s.rcu.sub * 8 + endCodeOf s.rcu.endCause) ++
  enc8 s.flagsByte ++ enc16 s.ldr.rackCode.toNat ++ enc16 s.rcu.planCode.toNat ++
  enc8 (bit s.doneVote 7 + s.rcu.phase) ++ enc16 s.bdu.ownHeld ++ enc16 s.askNow ++
  enc32 s.biu.heardMask.toNat ++ enc8 (s.acu.reportResult.code * 16 + s.acu.reportCode.toNat) ++
  enc16 (s.maskOf .failed) ++ enc16 (s.maskOf .running) ++ enc8 s.thu.onCount ++ enc8 s.meanDuty

/-- The head part, present while the history holds an entry (R157, R171). -/
def State.headBytes (s : State) : List Byte :=
  match s.acu.history with
  | [] => []
  | e :: _ => e.bytes

/-- The reply part, present when a READ reply is due (R172). -/
def State.replyPart (s : State) : List Byte :=
  match s.acu.readDue with
  | none => []
  | some i => s.replyBytes i

/-- The frame before its CRC (R166). -/
def State.frameBody (s : State) : List Byte := s.baseBytes ++ s.headBytes ++ s.replyPart

/-- The whole status frame: its body and the CRC over it (R166, R181, R182). -/
def State.frameBytes (s : State) : List Byte := s.frameBody ++ enc16 (crc s.frameBody).toNat

end Sys2Proof.Machine
end

