-- ==== Sys2Proof/Machine/Commands.lean ====
section
/-! DEFINITION. The eleven commands, their checks and their reports (R28 to R51, R144 to R148, R158 to R165), and the
meanings of their rows. -/

namespace Sys2Proof.Machine

/-! ### Checks and reports -/

/-- The code a command report carries: the command's own, or 15 for an unassigned one (R163, R188). -/
def reportedCode (code : Byte) : BitVec 4 :=
  if 1 ≤ code.toNat ∧ code.toNat ≤ 11 then BitVec.ofNat 4 code.toNat else 15

/-- The argument count a command carries (R164, R183). -/
def argumentCount : Nat → Nat
  | 1 => 14
  | 5 | 7 | 8 | 9 => 1
  | _ => 0

/-- A command names one station and may not be addressed to all (R164). -/
def namesOneStation (code : Nat) : Bool := 7 ≤ code && code ≤ 10

/-- The form check (R162, check 1). -/
def formOk (broadcast : Bool) (code count : Nat) : Bool :=
  1 ≤ code && code ≤ 11 && count == argumentCount code && !(broadcast && namesOneStation code)

/-- Checks 2 to 4 of R162 on a command of good form, in their order: the state, the value, then the effect with its
result. Outside the transmitting states no command is taken (R13, R161). -/
def State.judged (s : State) (code : BitVec 4) (inState valid : Bool) (effect : State × CmdResult) : State :=
  if s.transmits = false then s
  else if inState = false then s.report code .refusedState
  else if valid = false then s.report code .refusedArg
  else effect.1.report code effect.2

/-- A command that fails the form check is refused (R162, R188). -/
def State.refuseForm (s : State) (code : Byte) : State :=
  if s.transmits = false then s else s.report (reportedCode code) .refusedArg

/-- The socket that an argument byte names (R144 to R146). -/
def socketOf (b : Byte) : Socket := Fin.ofNat 16 b.toNat

/-- The station is in IDLE. -/
def State.isIdle (s : State) : Bool := s.rcu.state == .idle

/-- The station is in ACTIVE. -/
def State.isActive (s : State) : Bool := s.rcu.state == .active

/-! ### Run control's commands -/

/-- Store a plan entry, if there is one to store (R29). -/
def State.storePlan (s : State) (entry : Option PlanEntry) : State :=
  match entry with
  | some e => { s with rcu := s.rcu.storeEntry e }
  | none => s

/-- PLAN is taken (R28, R29). -/
def State.takePlan (s : State) (args : List Byte) : State :=
  let entry := parsePlan s.prof.loops.length args
  s.judged 1 s.isIdle entry.isSome (s.storePlan entry, .accepted)

/-- START is taken (R30). -/
def State.takeStart (s : State) : State :=
  s.judged 2 s.isIdle s.rcu.planComplete ({ s with rcu := { s.rcu with startPending := true } }, .accepted)

/-- HOLD is taken (R37). -/
def State.takeHold (s : State) : State :=
  s.judged 3 true true ({ s with rcu := { s.rcu with cmdHold := true } }, .accepted)

/-- RESUME is taken (R37). -/
def State.takeResume (s : State) : State :=
  s.judged 4 true true ({ s with rcu := { s.rcu with cmdHold := false } }, .accepted)

/-- ADVANCE(q) is accepted: the phase index equals q, or a transition toward q is under way (R35). -/
def State.advances (s : State) (q : Nat) : Bool := s.rcu.phase == q || s.rcu.transit.any (fun t => t.target == q)

/-- ADVANCE is taken (R35). -/
def State.takeAdvance (s : State) (q : Byte) : State :=
  s.judged 5 s.isActive (decide (q.toNat ≤ 11))
    (if s.advances q.toNat then ({ s with rcu := { s.rcu with advance := some q.toNat } }, .accepted) else (s, .ignored))

/-- ABORT is taken (R48). -/
def State.takeAbort (s : State) : State := s.judged 6 s.isActive true (s.abortRun, .accepted)

/-! ### The socket commands -/

/-- A record becomes EXCLUDED with source COMMAND (R144). -/
def SocketRecord.exclude (r : SocketRecord) : SocketRecord := { r with state := .excluded, source := some .command }

/-- The effect of EXCLUDE on a socket (R144). -/
def State.excludeSocket (s : State) (i : Socket) : State × CmdResult :=
  match s.socketState i with
  | .excluded => (s, .ignored)
  | .failed => (s, .refusedArg)
  | .off | .parked => ((s.withdraw (.socket i)).modRecord i SocketRecord.exclude, .accepted)
  | .powering | .settled | .running | .retry =>
    (((s.dropSocket i).releaseAllowance i).modRecord i SocketRecord.exclude, .accepted)

/-- EXCLUDE is taken (R144). -/
def State.takeExclude (s : State) (b : Byte) : State :=
  s.judged 7 (s.isIdle || s.isActive) (decide (b.toNat ≤ 15)) (s.excludeSocket (socketOf b))

/-- A record is no longer EXCLUDED (R145). -/
def SocketRecord.readmit (r : SocketRecord) : SocketRecord := { r with state := .off, source := none }

/-- The effect of INCLUDE on a socket (R145). In IDLE every socket is OFF or EXCLUDED (log entry 31). -/
def State.includeSocket (s : State) (i : Socket) : State × CmdResult :=
  match s.socketState i, s.acu.records[i].source with
  | .excluded, some .command => (s.modRecord i SocketRecord.readmit, .accepted)
  | .excluded, _ => (s, .refusedArg)
  | _, _ => (s, .ignored)

/-- INCLUDE is taken (R145). -/
def State.takeInclude (s : State) (b : Byte) : State :=
  s.judged 8 s.isIdle (decide (b.toNat ≤ 15)) (s.includeSocket (socketOf b))

/-- READ is taken (R146). -/
def State.takeRead (s : State) (b : Byte) : State :=
  s.judged 9 true (decide (b.toNat ≤ 15)) ({ s with acu := { s.acu with readDue := some (socketOf b) } }, .accepted)

/-- The effect of TAKE (R158): a marked head is removed, and the next head carries no mark. -/
def State.takeHead (s : State) : State × CmdResult :=
  if s.acu.shown = true ∧ s.acu.history ≠ [] then
    ({ s with acu := { s.acu with history := s.acu.history.tail, shown := false }
              biu := { s.biu with txShowsHead := false } }, .accepted)
  else (s, .ignored)

/-- TAKE is taken (R158). -/
def State.takeTake (s : State) : State := s.judged 10 true true s.takeHead

/-! ### CLEAR -/

/-- A socket record after CLEAR: the measurements are kept (R148). So is the on-time last posted, which R148 takes to be 0
already: the model's choice (log entry 36). -/
def SocketRecord.cleared (r : SocketRecord) (enabled : Bool) : SocketRecord :=
  { SocketRecord.initial with
    state := if enabled then .off else .excluded
    source := if enabled then none else some .profile
    lastCurrent := r.lastCurrent, lastTemp := r.lastTemp, band := r.band, onTime := r.onTime }

/-- The effect of CLEAR (R51, R110, R130, R148, R159). -/
def State.clearStation (s : State) : State :=
  let s := s.mapRecords (fun i r => r.cleared (s.prof.enableMask.getLsbD i.val))
  let s := s.mapHeaters (fun _ h => { h with sensorStreak := 0 })
  { s with
    rcu := { s.rcu with state := .idle, sub := none, phase := 0, intCount := 0, lateMark := none, endCause := none
                        startPending := false }
    biu := { s.biu with unheardStreak := 0, sinceUnheard := 0, txShowsHead := false }
    ptu := { s.ptu with passIndex := 0, reentryLeft := 0, sigs := Vector.replicate 16 0xFFFF }
    acu := { s.acu with history := [], overflow := false, shown := false } }

/-- CLEAR is taken (R51). -/
def State.takeClear (s : State) : State :=
  s.judged 11 (s.rcu.state == .idle || s.rcu.state == .done) true (s.clearStation, .accepted)

/-! ### A command frame's command -/

/-- A command of good form goes to its rule (R164, R183). -/
def State.dispatchCommand (s : State) (code : Nat) (args : List Byte) : State :=
  match code with
  | 1 => s.takePlan args
  | 2 => s.takeStart
  | 3 => s.takeHold
  | 4 => s.takeResume
  | 5 => s.takeAdvance (args.headD 0)
  | 6 => s.takeAbort
  | 7 => s.takeExclude (args.headD 0)
  | 8 => s.takeInclude (args.headD 0)
  | 9 => s.takeRead (args.headD 0)
  | 10 => s.takeTake
  | _ => s.takeClear

/-- A command is taken from a frame (R161, R162). -/
def State.takeCommand (s : State) (broadcast : Bool) (code : Byte) (args : List Byte) : State :=
  if formOk broadcast code.toNat args.length then s.dispatchCommand code.toNat args else s.refuseForm code

/-! ### The rows -/

/-- PLAN (R28). -/
def execCmdPlan (args : List Byte) (s : State) : Host.Outcome State Fault Refusal := .next (s.takePlan args)

/-- START (R30). -/
def execCmdStart (s : State) : Host.Outcome State Fault Refusal := .next s.takeStart

/-- HOLD (R37). -/
def execCmdHold (s : State) : Host.Outcome State Fault Refusal := .next s.takeHold

/-- RESUME (R37). -/
def execCmdResume (s : State) : Host.Outcome State Fault Refusal := .next s.takeResume

/-- ADVANCE (R35). -/
def execCmdAdvance (phase : Byte) (s : State) : Host.Outcome State Fault Refusal := .next (s.takeAdvance phase)

/-- ABORT (R48). -/
def execCmdAbort (s : State) : Host.Outcome State Fault Refusal := .next s.takeAbort

/-- EXCLUDE (R144). -/
def execCmdExclude (socket : Byte) (s : State) : Host.Outcome State Fault Refusal := .next (s.takeExclude socket)

/-- INCLUDE (R145). -/
def execCmdInclude (socket : Byte) (s : State) : Host.Outcome State Fault Refusal := .next (s.takeInclude socket)

/-- READ (R146). -/
def execCmdRead (socket : Byte) (s : State) : Host.Outcome State Fault Refusal := .next (s.takeRead socket)

/-- TAKE (R158). -/
def execCmdTake (s : State) : Host.Outcome State Fault Refusal := .next s.takeTake

/-- CLEAR (R51). -/
def execCmdClear (s : State) : Host.Outcome State Fault Refusal := .next s.takeClear

/-- INVALID_COMMAND (R162). -/
def execInvalidCommand (code : Byte) (s : State) : Host.Outcome State Fault Refusal := .next (s.refuseForm code)

end Sys2Proof.Machine
end

