-- ==== Sys2Proof/Machine/Budget.lean ====
section
/-! DEFINITION. The Budget Unit at the mark: the budget table, the visit, predictions and the own grant (R52 to R67). -/

namespace Sys2Proof.Machine

/-- A frame was received in a station slot in the round just ended (R12). -/
def State.heardFrom (s : State) (k : Station) : Bool := s.biu.received.getLsbD (stationSlot k)

/-- The held counted for a slot at the mark (R52). -/
def State.countedHeld (s : State) (k : Station) : Nat :=
  let e := s.biu.peers[k]
  if s.isOwn k then s.bdu.ownHeld
  else
    match e.presence with
    | .absent => 0
    | .live => if e.rackDiffers then e.report.held + e.report.asked else e.report.held
    | .silent | .lost => e.report.held + e.report.asked

/-- The asked of a slot that is a candidate for grant at the mark, 0 otherwise (R52, R61). -/
def State.candidate (s : State) (k : Station) : Nat :=
  let e := s.biu.peers[k]
  if s.isOwn k then (if s.biu.tx = .sentWhole then s.bdu.sentAsked else 0)
  else if e.presence = .live ∧ e.rackDiffers = false then e.report.asked
  else 0

/-- The table sum H (R52). -/
def State.tableSum (s : State) : Nat := (allStations.map s.countedHeld).sum

/-- The place the visit starts at: the lowest station slot not below the round number modulo 32, or slot 2 (R61). -/
def visitStart (round : Word) : Nat := round.toNat % 32 - 2

/-- The order of the visit: ascending from its start, wrapping from slot 31 to slot 2 (R61). -/
def visitOrder (round : Word) : List Station :=
  allStations.drop (visitStart round) ++ allStations.take (visitStart round)

/-- The slots granted by a visit with free current `free`: all-or-nothing, passing over what does not fit (R61). -/
def visit (asked : Station → Nat) : List Station → Nat → List Station
  | [], _ => []
  | k :: ks, free =>
    if 0 < asked k ∧ asked k ≤ free then k :: visit asked ks (free - asked k) else visit asked ks free

/-- The slots granted at a mark that closes a round with this number (R61). -/
def State.granted (s : State) (round : Word) : List Station :=
  if s.prof.budget < s.tableSum then []
  else visit s.candidate (visitOrder round) (s.prof.budget - s.tableSum)

/-- Enter the predictions for the peers granted (R53, R62). -/
def State.predict (s : State) (granted : List Station) : State :=
  { s with biu := { s.biu with peers := Vector.ofFn (fun k : Station =>
      let e := s.biu.peers[k]
      if k ∈ granted ∧ s.isOwn k = false then
        { e with report := { e.report with held := e.report.held + e.report.asked } }
      else e) } }

/-- A granted need is handed to its block (R59, R71, R83, R103). -/
def State.handOn (s : State) : Need → State
  | .railBase => s.startBringup
  | .socket i => if s.socketState i = .off ∨ s.socketState i = .parked then s.closeSwitch i else s
  | .transition =>
    match s.rcu.transit with
    | some t => s.startRetarget t.target
    | none => s
  | .heater => s.addToken

/-- The station applies its own grant: the own held rises by the asked value, and the need asked for is handed on with
any excess released, or the whole is released again (R59). A need at the head whose amount now stands above the asked
value, for which R59 has no row, stays in its place and the whole is released: the model's choice (log entry 34). -/
def State.applyGrant (s : State) : State :=
  let asked := s.bdu.sentAsked
  match s.bdu.sentNeed with
  | none => s
  | some n =>
    if s.bdu.queue.head? = some n ∧ s.amount n ≤ asked then
      let s := { s with bdu := { s.bdu with ownHeld := s.bdu.ownHeld + asked - (asked - s.amount n)
                                            queue := s.bdu.queue.tail } }
      s.handOn n
    else s

/-- What the mark tells the BDU besides the table: the round number of the round just ended, whether it was a
disagreeing round, and whether a frame was missed from a LIVE or SILENT peer (R10, R61, R63). -/
structure MarkFacts where
  round : Word
  disagreeing : Bool
  missedPeer : Bool
  deriving DecidableEq, Repr

/-- The station may apply its own grant at this mark, its slot granted (R63). -/
def State.mayApply (s : State) (f : MarkFacts) : Bool := !f.missedPeer && !s.rackConflict && !f.disagreeing

/-- The BDU's work at a mark: the grants, the predictions and the own grant (R61 to R63). -/
def State.budgetMark (s : State) (f : MarkFacts) : State :=
  let granted := s.granted f.round
  let s := s.predict granted
  if granted.any s.isOwn && s.mayApply f then s.applyGrant else s

end Sys2Proof.Machine
end

