-- ==== Sys2Proof/Machine/Bus.lean ====
section
/-! DEFINITION. The Bus Interface Unit: reception, the mark's bus work, the peer table and the heard masks
(chapter 1). -/

namespace Sys2Proof.Machine

/-! ### Reception -/

/-- Frames may be received: after the sync mark, in LISTEN, IDLE, ACTIVE, WINDDOWN and DONE (R12). -/
def State.receives (s : State) : Bool := s.running && s.biu.synced

/-- A slot is marked received (R12). -/
def State.markReceived (s : State) (slot : Nat) : State :=
  { s with biu := { s.biu with received := s.biu.received ||| BitVec.ofNat 32 (2 ^ slot) } }

/-- A status report is stored in the receive buffer of its slot (R12, R17). -/
def State.storeStatus (s : State) (k : Station) (r : StatusReport) : State :=
  State.markReceived { s with biu := { s.biu with rxStatus := s.biu.rxStatus.set k (some r) } } (stationSlot k)

/-- A command frame is received: its slot and its round number are recorded (R9, R12). -/
def State.storeCommand (s : State) (slot : Nat) (round : Word) : State :=
  State.markReceived { s with biu := { s.biu with rxRounds := s.biu.rxRounds ++ [round] } } slot

/-- The peers' reports received in the round just ended, the own slot apart, with their places (R10, R17). -/
def State.peerReports (s : State) : List (Station × StatusReport) :=
  allStations.filterMap (fun k => if s.isOwn k then none else s.biu.rxStatus[k].map (fun r => (k, r)))

/-- Every status report received in the round just ended, the own slot included. -/
def State.allReports (s : State) : List StatusReport := allStations.filterMap (fun k => s.biu.rxStatus[k])

/-- The station is under rack hold at this mark (R38). -/
def State.rackHold (s : State) : Bool := s.holdFlag || s.allReports.any StatusReport.hold

/-! ### Round numbers and slip -/

/-- The highest of a list of round numbers, as unsigned integers, and at least the first given (R8). -/
def highestRound (own : Word) (rounds : List Word) : Word :=
  rounds.foldl (fun best r => if best.toNat < r.toNat then r else best) own

/-- The new round number in LISTEN: the highest of any frame received plus 1, or the own plus 1 (R9). -/
def State.listenRound (s : State) : Word :=
  match s.biu.rxRounds ++ s.allReports.map StatusReport.round with
  | [] => s.biu.roundNumber + 1
  | r :: rs => highestRound r rs + 1

/-- The new round number outside LISTEN: the highest of the peers' and the own, plus 1 (R10). -/
def State.nextRound (s : State) : Word :=
  if s.rcu.state = .listen then s.listenRound
  else highestRound s.biu.roundNumber (s.peerReports.map (fun p => p.2.round)) + 1

/-- The facts of a mark, read before the table is updated (R10, R63). -/
def State.markFacts (s : State) : MarkFacts :=
  { round := s.biu.roundNumber
    disagreeing := s.peerReports.any (fun p => p.2.round != s.biu.roundNumber)
    missedPeer := allStations.any (fun k =>
      !s.isOwn k && !s.heardFrom k &&
      (s.biu.peers[k].presence == .live || s.biu.peers[k].presence == .silent)) }

/-- drift-warn at a mark (R7). -/
def driftWarnOf (slip period : Nat) : Bool := period * 1000 < slip * 256

/-- drift-severe at a mark (R7). -/
def driftSevereOf (slip period : Nat) : Bool := period * 1000 < slip * 64

/-! ### The peer table -/

/-- The forget rule: ABSENT, streak 0, held and asked 0 (R18, R53). -/
def Peer.forget (e : Peer) : Peer :=
  { e with presence := .absent, missed := 0, report := { e.report with held := 0, asked := 0 } }

/-- An entry whose slot was missed (R18), with the lost threshold L. -/
def Peer.miss (e : Peer) (lost : Nat) : Peer :=
  match e.presence with
  | .absent => { e with missed := 0 }
  | .live => { e with presence := .silent, missed := 1 }
  | .silent =>
    if e.missed + 1 < lost then { e with missed := e.missed + 1 }
    else { e with presence := .lost, missed := e.missed + 1 }
  | .lost => if e.missed + 1 < 2 * lost then { e with missed := e.missed + 1 } else e.forget

/-- An entry whose slot was received: LIVE, streak 0, the reported fields replaced, and the rack code compared
(R17, R18, R22). -/
def Peer.hear (e : Peer) (report : Option StatusReport) (ownRack : Half) : Peer :=
  match report with
  | some r => { presence := .live, missed := 0, report := r, rackDiffers := r.rackCode != ownRack }
  | none => { e with presence := .live, missed := 0 }

/-- The peer table's update at a mark (R18). -/
def State.updatePeers (s : State) : State :=
  { s with biu := { s.biu with peers := Vector.ofFn (fun k : Station =>
      if s.heardFrom k then s.biu.peers[k].hear s.biu.rxStatus[k] s.ldr.rackCode
      else s.biu.peers[k].miss s.prof.lostThreshold) } }

/-! ### Unheard rounds and stopped frames -/

/-- What the heard masks received say of the round before last: heard, unheard, or no finding (R21). -/
def State.heardFinding (s : State) : Option Bool :=
  match s.peerReports with
  | [] => none
  | rs => some (rs.all (fun p => p.2.heard.getLsbD s.slot.val))

/-- The two counts of R21 at a mark. -/
def State.countUnheard (s : State) : State :=
  match s.heardFinding with
  | some true => { s with biu := { s.biu with unheardStreak := 0, sinceUnheard := min 255 (s.biu.sinceUnheard + 1) } }
  | some false => { s with biu := { s.biu with unheardStreak := s.biu.unheardStreak + 1, sinceUnheard := 0 } }
  | none => { s with biu := { s.biu with sinceUnheard := min 255 (s.biu.sinceUnheard + 1) } }

/-- The readback-mismatch count at a mark (R14). -/
def State.countMismatch (s : State) : State :=
  { s with biu := { s.biu with mismatchCount :=
      match s.biu.tx with
      | .stoppedByReadback => s.biu.mismatchCount + 1
      | .sentWhole => 0
      | _ => s.biu.mismatchCount } }

/-- The bus work of a mark after the sync mark: the timer, the slip and its flags, the round number, the peer table,
the heard mask and the counts (R5, R7, R8, R14, R18, R20, R21). -/
def State.biuMark (s : State) (slip : Nat) : State :=
  let round := s.nextRound
  let s := s.updatePeers
  let s := if s.rcu.state = .listen then s else s.countUnheard.countMismatch
  { s with biu := { s.biu with roundTimer := s.prof.period * 1000, usPhase := 0, slip := slip
                               driftWarn := driftWarnOf slip s.prof.period
                               driftSevere := driftSevereOf slip s.prof.period
                               roundNumber := round, heardMask := s.biu.received } }

/-- The own frame as a round begins: none of the new round is sent yet, and one in progress is sent on to its end
(R11, R14; log entry 11). -/
def Transmission.nextRound : Transmission → Transmission
  | .sending | .carriedOver => .carriedOver
  | .notSent | .stoppedByReadback | .sentWhole => .notSent

/-- The round begins: an empty receive set, no own frame of the round sent yet, no command report, and a scan requested
(R12, R14, R94, R163). -/
def State.beginRound (s : State) : State :=
  let s := { s with
    biu := { s.biu with received := 0, rxStatus := Vector.replicate 30 none, rxRounds := [], rxBroken := none
                        tx := s.biu.tx.nextRound }
    rcu := { s.rcu with sentVote := false }
    thu := { s.thu with markScanWarm := false } }
  (s.report 0 .none).requestScan .mark

/-- The sync mark (R6, R9, R20): the BIU is synchronised, with slip 0 and no flags, the round number is the own
plus 1 and the heard mask empty. -/
def State.syncMark (s : State) : State :=
  State.beginRound { s with biu := { s.biu with
    roundTimer := s.prof.period * 1000, usPhase := 0, synced := true, slip := 0, driftWarn := false, driftSevere := false
    roundNumber := s.biu.roundNumber + 1, heardMask := 0, joinCount := 0 } }

end Sys2Proof.Machine
end

