-- ==== Sys2Proof/Machine/Frames.lean ====
section
/-! DEFINITION. The rows of the frames on CBD: the station's own, and those it receives (R2, R11 to R14, R157, R161). -/

namespace Sys2Proof.Machine

/-! ### The own frame -/

/-- A TRANSITION need at the head whose amount has fallen to 0 is withdrawn at the build, and the retarget starts
(R58). -/
def State.settleTransition (s : State) : State :=
  match s.bdu.queue, s.rcu.transit with
  | .transition :: _, some t => if s.amount .transition = 0 then (s.withdraw .transition).startRetarget t.target else s
  | _, _ => s

/-- The frame's bytes, its held and asked, its need and its vote are fixed, and a READ reply is no longer due
(R11, R36, R54, R59, R60, R146, R157). -/
def State.sendFrame (s : State) : State :=
  { s with
    biu := { s.biu with tx := .sending, txFrame := s.frameBytes, txShowsHead := !s.acu.history.isEmpty, txClock := 0 }
    bdu := { s.bdu with sentHeld := s.bdu.ownHeld, sentAsked := s.askNow
                        sentNeed := if s.askNow = 0 then none else s.bdu.queue.head? }
    rcu := { s.rcu with sentVote := s.doneVote }
    acu := { s.acu with readDue := none } }

/-- The frame of a round is built once, in a transmitting state, at the start of the own slot and at no other time
(R11; log entry 25). -/
def State.buildFrame (s : State) : State :=
  if s.transmits = true ∧ s.atSlotStart = true ∧ (s.biu.tx = .notSent ∨ s.biu.tx = .carriedOver) then
    s.settleTransition.sendFrame
  else s

/-- The first mismatching bit stops the frame (R14). A frame carried over an early mark is released alike, and is neither
counted nor sent in the round (log entry 11). -/
def State.stopFrame (s : State) : State :=
  match s.biu.tx with
  | .sending => { s with biu := { s.biu with tx := .stoppedByReadback } }
  | .carriedOver => { s with biu := { s.biu with tx := .notSent } }
  | _ => s

/-- The own frame is received in the own slot (R12, R14, R19). -/
def State.hearOwn (s : State) : State :=
  match stationOf s.slot, parseStatus s.slot.val s.biu.txFrame with
  | some k, some r => s.storeStatus k r
  | _, _ => s

/-- The head entry that the frame sent carries takes the shown mark, while it is still the head (R157). -/
def State.showHead (s : State) : State :=
  { s with acu := { s.acu with shown := s.acu.shown || (s.biu.txShowsHead && !s.acu.history.isEmpty) } }

/-- The frame is at its end and read back whole: its head entry takes the shown mark, in its own round and over an early
mark alike (R157), and it counts as received in its own slot (R12, R14). A frame carried over an early mark ends outside its
slot: it is not received (log entry 11). -/
def State.endFrame (s : State) : State :=
  if s.frameEnded = false then s
  else
    match s.biu.tx with
    | .sending => State.hearOwn { s.showHead with biu := { s.biu with tx := .sentWhole } }
    | .carriedOver => { s.showHead with biu := { s.biu with tx := .notSent } }
    | _ => s

/-! ### Received frames -/

/-- The frame in progress is no longer marked broken. -/
def State.forgetBroken (s : State) : State := { s with biu := { s.biu with rxBroken := none } }

/-- A command frame is addressed to this station (R13, R161, R188). -/
def State.addressed (s : State) (target : Nat) : Bool := target == s.slot.val || target == 255

/-- A frame in a controller slot: it is received, and its command taken if it is for this station (R12, R13, R160). -/
def State.hearCommand (s : State) (slot : Nat) (bytes : List Byte) : State :=
  match parseCommand slot bytes with
  | none => s
  | some f =>
    let s := s.storeCommand slot f.round
    if s.transmits && s.addressed f.target then s.takeCommand (f.target == 255) f.code f.args else s

/-- A frame in a station slot (R12, R17). -/
def State.hearStatus (s : State) (k : Station) (bytes : List Byte) : State :=
  match parseStatus (stationSlot k) bytes with
  | none => s
  | some r => s.storeStatus k r

/-- A frame arrives in a slot (R12). A frame marked broken by a framing error is not received (R2). In the own slot of a
transmitting station and in a slot already received nothing more is taken (log entry 10). A whole frame that fails a
check leaves the slot as it was, and a later whole frame of the slot is received: the model's choice (log entry 33). A
frame that does not lie within its slot, by the round timer, is not received (R12; log entry 39). -/
def State.hearFrame (s : State) (slot : Slot) (bytes : List Byte) : State :=
  if s.receives = false then s
  else if s.biu.rxBroken = some slot then s.forgetBroken
  else if s.transmits && slot == s.slot then s
  else if s.biu.received.getLsbD slot.val then s
  else if s.inSlot slot.val (frameLength slot bytes) = false then s
  else
    match stationOf slot with
    | none => s.hearCommand slot.val bytes
    | some k => s.hearStatus k bytes

/-- A gap ends the frame in progress: it is not received (R2). A whole frame that follows it in the slot is received: the
model's choice (log entry 33). -/
def State.breakFrame (s : State) (slot : Slot) : State :=
  if s.biu.rxBroken = some slot then s.forgetBroken else s

/-- A framing error breaks the frame in progress (R2). -/
def State.misframe (s : State) (slot : Slot) : State :=
  if s.receives then { s with biu := { s.biu with rxBroken := some slot } } else s

/-! ### The rows -/

/-- STATUS_FRAME_BUILD (R11). -/
def execStatusFrameBuild (s : State) : Host.Outcome State Fault Refusal := .next s.buildFrame

/-- READBACK_MISMATCH (R14). -/
def execReadbackMismatch (s : State) : Host.Outcome State Fault Refusal := .next s.stopFrame

/-- STATUS_FRAME_END (R14). -/
def execStatusFrameEnd (s : State) : Host.Outcome State Fault Refusal := .next s.endFrame

/-- FRAME_RECEIVED (R12). -/
def execFrameReceived (slot : Slot) (bytes : List Byte) (s : State) : Host.Outcome State Fault Refusal :=
  .next (s.hearFrame slot bytes)

/-- FRAME_BROKEN (R2). -/
def execFrameBroken (slot : Slot) (s : State) : Host.Outcome State Fault Refusal := .next (s.breakFrame slot)

/-- FRAMING_ERROR (R2). -/
def execFramingError (slot : Slot) (s : State) : Host.Outcome State Fault Refusal := .next (s.misframe slot)

end Sys2Proof.Machine
end

