-- ==== Sys2Proof/Machine/Heat.lean ====
section
/-! DEFINITION. The rows of the heat side: temperature readings, scans and heater periods (R94 to R104, R140). -/

namespace Sys2Proof.Machine

/-! ### A temperature reading -/

/-- The THU takes a reading: an invalid one leaves the last temperature (R95). The window in force at the reading is kept with
it until the scan completion regulates the socket (R96, R99; log entry 15). -/
def takeReading (reading : Option Int) (band : Band) (window : Int × Int) (h : Heater) : Heater :=
  { h with band := band, lastTemp := reading.getD h.lastTemp, window := window }

/-- The record takes the posted temperature and band (R136). -/
def SocketRecord.measure (temp : Int) (band : Band) (r : SocketRecord) : SocketRecord :=
  { r with band := band, lastTemp := temp }

/-- The reading's temperature and band at the THU and in the record, and the socket gate (R95, R109, R140). -/
def State.postBand (s : State) (i : Socket) (reading : Option Int) (band : Band) : State :=
  let s := s.modHeater i (takeReading reading band s.window)
  let s := s.modRecord i (SocketRecord.measure s.thu.heaters[i].lastTemp band)
  if band = .window then s else { s with acu := { s.acu with socketGate := s.acu.socketGate.set i false } }

/-- A valid reading, or one of an EXCLUDED or FAILED socket (R98). -/
def noSensorFault (h : Heater) : Heater := { h with sensorStreak := 0 }

/-- An invalid reading: the streak rises, up to 255 (R98). -/
def sensorFault (h : Heater) : Heater := { h with sensorStreak := min 255 (h.sensorStreak + 1) }

/-- The sensor-fault streak and its entry (R98). -/
def State.judgeSensor (s : State) (i : Socket) (code : Half) (band : Band) : State :=
  if s.socketState i = .excluded ∨ s.socketState i = .failed ∨ band ≠ .unknown then
    s.modHeater i noSensorFault
  else
    let first := s.thu.heaters[i].sensorStreak = 0
    let s := s.modHeater i sensorFault
    if first then s.writeSocketEntry i (.sensor code) false else s

/-- A heater whose socket has one TRIP reading counted (R97). -/
def oneTrip (h : Heater) : Heater := { h with tripStreak := 1 }

/-- The trip streak: the first TRIP reading of a powered socket forces its heater off, the second fails it (R97). -/
def State.judgeTrip (s : State) (i : Socket) (reading : Option Int) (band : Band) : State :=
  if (s.socketState i).powered = true ∧ band = .trip then
    if s.thu.heaters[i].tripStreak = 0 then
      State.forceOff (s.modHeater i oneTrip) i
    else s.failSocket i .thermal (.thermal (reading.getD 0))
  else s.modHeater i noTrips

/-- A mark scan notes a powered socket found WARM (R94). -/
def State.noteWarm (s : State) (i : Socket) (band : Band) : State :=
  if s.scanner.scan = some .mark ∧ (s.socketState i).powered = true ∧ band = .warm then
    { s with thu := { s.thu with markScanWarm := true } }
  else s

/-- A temperature is classed and judged (R94 to R98). -/
def State.judgeTemperature (s : State) (i : Socket) (code : Half) : State :=
  let reading := readingOf code
  let band := bandOf s.window s.prof.tripMargin reading
  (((s.postBand i reading band).noteWarm i band).judgeSensor i code band).judgeTrip i reading band

/-- The conversion of a channel of the scan in progress ends, and the next channel is the one after it (R81, R94). -/
def State.readTemperature (s : State) (i : Socket) (code : Half) : State :=
  s.handOver (.temperature i)
    (fun s => State.judgeTemperature { s with scanner := { s.scanner with channel := i.val + 1 } } i code)

/-! ### Scans and periods -/

/-- The end of channel 15's conversion completes the scan: on-times are regulated and posted, and a held scan begins
(R81, R99, R109). -/
def State.completeScan (s : State) : State := if s.scanEnds then s.regulateAll.nextScan else s

/-- A heater's period ends and the next starts at the same instant, while a schedule runs (R101, R102). -/
def State.nextPeriod (s : State) (i : Socket) : State :=
  if s.thu.anchor = none then s else (s.endHeating i).startPeriod i

/-- The due end of an on-phase (R102, R104). -/
def State.endOnPhase (s : State) (i : Socket) : State :=
  if s.thu.heaters[i].phase = .on then s.endHeating i else s

/-! ### The rows -/

/-- TEMPERATURE_READING (R95). -/
def execTemperatureReading (socket : Socket) (code : Half) (s : State) : Host.Outcome State Fault Refusal :=
  .next (s.readTemperature socket code)

/-- SCAN_COMPLETION (R99). -/
def execScanCompletion (s : State) : Host.Outcome State Fault Refusal := .next s.completeScan

/-- HEATER_PERIOD_START (R102). -/
def execHeaterPeriodStart (heater : Socket) (s : State) : Host.Outcome State Fault Refusal := .next (s.nextPeriod heater)

/-- HEATER_ON_END (R102). -/
def execHeaterOnEnd (heater : Socket) (s : State) : Host.Outcome State Fault Refusal := .next (s.endOnPhase heater)

end Sys2Proof.Machine
end

