-- ==== Sys2Proof/Machine/Passes.lean ====
section
/-! DEFINITION. The row of the pass end: the pass check and what follows it (R118, R122 to R124). -/

namespace Sys2Proof.Machine

/-- The expected signature of the pass in flight (R114, R115). -/
def Ptu.expected (p : Ptu) : Half :=
  match p.loop with
  | none => 0
  | some k => if p.inverted then k.sigInverted else k.sigTrue

/-- A match (R122). -/
def SocketRecord.matched (r : SocketRecord) : SocketRecord := { r with passCount := r.passCount + 1, streak := 0 }

/-- A mismatch (R122). -/
def SocketRecord.mismatched (r : SocketRecord) : SocketRecord :=
  { r with mismatchCount := r.mismatchCount + 1, streak := r.streak + 1 }

/-- A mismatch taken further (R123), its counts already moved. -/
def State.judgeMismatch (s : State) (i : Socket) (signature : Half) : State :=
  if s.prof.functionalThreshold ≤ s.acu.records[i].streak then
    s.failSocket i .functional (.functional signature s.ptu.inverted)
  else if s.acu.records[i].soft then s
  else State.modRecord (s.writeSocketEntry i (.soft signature s.ptu.inverted) false) i (fun r => { r with soft := true })

/-- The pass check of one socket: a member's signature against the expected one (R119, R122, R134). -/
def State.checkSocket (s : State) (i : Socket) : State :=
  if s.ptu.members[i] = true ∧ s.socketState i = .running then
    if s.ptu.sigs[i] = s.ptu.expected then s.modRecord i SocketRecord.matched
    else (s.modRecord i SocketRecord.mismatched).judgeMismatch i s.ptu.sigs[i]
  else s

/-- The results of a pass end (R118 step 1): none for a re-entry pass, one for each member otherwise. -/
def State.postResults (s : State) : State :=
  if s.ptu.reentryLeft = 0 then allSockets.foldl State.checkSocket s
  else { s with ptu := { s.ptu with reentryLeft := s.ptu.reentryLeft - 1 } }

/-- The next pass starts (R118 step 3). -/
def State.startNextPass (s : State) : State :=
  (State.beginPass { s with ptu := { s.ptu with passIndex := s.ptu.passIndex + 1 } }).raiseFirst

/-- The end of a pass (R118, R124). -/
def State.endPass (s : State) : State :=
  if s.ptu.engine = .playing ∨ s.ptu.engine = .stopping then
    let s := s.postResults
    if s.ptu.finishPending then s.stopEngine.stopComplete else s.startNextPass
  else s

/-- PASS_END (R118). -/
def execPassEnd (s : State) : Host.Outcome State Fault Refusal := .next s.endPass

end Sys2Proof.Machine
end

