-- ==== Sys2Proof/Machine/Power.lean ====
section
/-! DEFINITION. The rows of the power side: current, rail and bulk readings, their timeouts, trips and the door (R37,
R69 to R92). -/

namespace Sys2Proof.Machine

/-! ### Sockets -/

/-- A current reading of its conversion slot: last current follows it, and a closed switch is supervised (R80, R84, R85, R87, R136). -/
def State.readCurrent (s : State) (i : Socket) (current : Half) : State :=
  s.handOver (.current i)
    (fun s => State.superviseCurrent (s.modRecord i (fun r => { r with lastCurrent := current })) i current)

/-- The instant comparator trips a socket above twice its threshold, with that level as detail (R88). At the instant at which
the open check made the socket SETTLED no trip follows (R91; log entry 40). -/
def State.tripInstantly (s : State) (i : Socket) (current : Half) : State :=
  let level := 2 * s.rlu.sockets[i].threshold
  let armed := s.rlu.sockets[i].closed && !s.rlu.sockets[i].settledNow
  if armed = true ∧ level < current.toNat then s.trip i level else s

/-- The settle timer of a POWERING socket runs out: its open check begins (R84). -/
def State.endSettle (s : State) (i : Socket) : State :=
  if s.socketState i = .powering ∧ s.rlu.sockets[i].openCheck = none then
    s.modPower i (fun p => { p with settle := none, openCheck := some 0 })
  else s

/-! ### Rails -/

/-- A RAMPING rail within tolerance is UP, and the next rail of the bring-up starts (R71). -/
def State.afterRamped (s : State) (r : Rail) : State :=
  match nextRail r with
  | some n => s.startRail n
  | none => s

/-- The tolerance supervision of a rail that is UP (R73). -/
def State.superviseRail (s : State) (r : Rail) (good : Bool) : State :=
  if good then s.modRail r (fun u => { u with streak := 0 })
  else if s.rlu.rails[r.ix].streak + 1 < 4 then s.modRail r (fun u => { u with streak := u.streak + 1 })
  else s.interrupt .rail

/-- A rail reading is judged by the check of the rail's state (R70, R71, R73, R74, R76). R71 and R74 count only readings whose
conversion ends after the rail started, or after it entered RETARGETING. A conversion that ends at that very instant counts
where its row is taken after the start or the entry: the rules leave the tie open, and this is the model's choice (log entry
41). -/
def State.judgeRail (s : State) (r : Rail) (reading : Half) : State :=
  let u := s.rlu.rails[r.ix]
  let v := s.voltage r u.level
  let good := inTolerance s.prof.tolerance reading.toNat v
  match u.state with
  | .off => s
  | .ramping => if good then (s.railIsUp r).afterRamped r else s
  | .up => s.superviseRail r good
  | .retargeting => if good then (s.railIsUp r).afterRetargeted r else s
  | .falling => if reading.toNat * 10 < v then s.railDown r else s

/-- A rail reading of its conversion slot (R80). -/
def State.readRail (s : State) (r : Rail) (reading : Half) : State := s.handOver (.rail r) (fun s => s.judgeRail r reading)

/-- The settle time of a RAMPING or RETARGETING rail passes (R72, R74). -/
def State.railFails (s : State) (r : Rail) : State :=
  if s.railState r = .ramping ∨ s.railState r = .retargeting then s.interrupt .rail else s

/-- The settle time of a FALLING rail passes (R76). -/
def State.railFallen (s : State) (r : Rail) : State := if s.railState r = .falling then s.railDown r else s

/-! ### Bulk and board -/

/-- The bulk status becomes low, and the RLU reports it (R78, R79). -/
def State.bulkGoesLow (s : State) : State :=
  let s := { s with rlu := { s.rlu with bulkLow := true, lowStreak := 0, highStreak := 0 } }
  if s.railsOff = true ∧ (s.rcu.state = .active ∨ s.rcu.state = .windDown) then s else s.interrupt .bulk

/-- The bulk status becomes good, and a deferred bring-up starts with rail A (R71, R78, R79). -/
def State.bulkGoesGood (s : State) : State :=
  let deferred := s.rlu.deferred
  let s := { s with rlu := { s.rlu with bulkLow := false, lowStreak := 0, highStreak := 0, deferred := false } }
  if deferred then s.startRail .a else s

/-- A bulk voltage is classed against the threshold (R78). -/
def State.judgeBulk (s : State) (voltage : Half) : State :=
  if voltage.toNat < s.prof.bulkThreshold then
    if s.rlu.bulkLow then { s with rlu := { s.rlu with highStreak := 0 } }
    else if s.rlu.lowStreak + 1 < 4 then { s with rlu := { s.rlu with lowStreak := s.rlu.lowStreak + 1 } }
    else s.bulkGoesLow
  else if s.rlu.bulkLow then
    if s.rlu.highStreak + 1 < 100 then { s with rlu := { s.rlu with highStreak := s.rlu.highStreak + 1 } }
    else s.bulkGoesGood
  else { s with rlu := { s.rlu with lowStreak := 0 } }

/-- A bulk voltage reading of its conversion slot (R78, R80). -/
def State.readBulk (s : State) (voltage : Half) : State := s.handOver .bulk (fun s => s.judgeBulk voltage)

/-- A board current is compared with the own held (R69). -/
def State.judgeBoard (s : State) (current : Half) : State :=
  if s.railsOff = true then s
  else if current.toNat ≤ s.bdu.ownHeld then { s with rlu := { s.rlu with boardStreak := 0 } }
  else if s.rlu.boardStreak + 1 < 8 then { s with rlu := { s.rlu with boardStreak := s.rlu.boardStreak + 1 } }
  else State.interrupt { s with rlu := { s.rlu with boardStreak := 0 } } .board

/-- A board current reading of its conversion slot (R69, R80). -/
def State.readBoard (s : State) (current : Half) : State := s.handOver .board (fun s => s.judgeBoard current)

/-! ### The rows -/

/-- SOCKET_CURRENT_READING (R87). -/
def execSocketCurrentReading (socket : Socket) (current : Half) (s : State) : Host.Outcome State Fault Refusal :=
  .next (s.readCurrent socket current)

/-- INSTANT_TRIP (R88). -/
def execInstantTrip (socket : Socket) (current : Half) (s : State) : Host.Outcome State Fault Refusal :=
  .next (s.tripInstantly socket current)

/-- SOCKET_SETTLE_END (R84). -/
def execSocketSettleEnd (socket : Socket) (s : State) : Host.Outcome State Fault Refusal := .next (s.endSettle socket)

/-- RAIL_READING (R73). -/
def execRailReading (rail : Rail) (voltage : Half) (s : State) : Host.Outcome State Fault Refusal :=
  .next (s.readRail rail voltage)

/-- RAIL_SETTLE_TIMEOUT (R72). -/
def execRailSettleTimeout (rail : Rail) (s : State) : Host.Outcome State Fault Refusal := .next (s.railFails rail)

/-- RAIL_FALL_TIMEOUT (R76). -/
def execRailFallTimeout (rail : Rail) (s : State) : Host.Outcome State Fault Refusal := .next (s.railFallen rail)

/-- BULK_READING (R78). -/
def execBulkReading (voltage : Half) (s : State) : Host.Outcome State Fault Refusal := .next (s.readBulk voltage)

/-- BOARD_CURRENT_READING (R69). -/
def execBoardCurrentReading (current : Half) (s : State) : Host.Outcome State Fault Refusal := .next (s.readBoard current)

/-- DOOR_CHANGE (R37). -/
def execDoorChange (asserted : Bool) (s : State) : Host.Outcome State Fault Refusal := .next { s with door := asserted }

end Sys2Proof.Machine
end

