-- ==== Sys2Proof/Machine/Mark.lean ====
section
/-! DEFINITION. The work of an accepted mark: credit, starts, phase agreement, hold, recovery and the gates of the new
round (R23, R31 to R46, R89, R101, R105, R137 to R141). The order of the parts is log entry 6. -/

namespace Sys2Proof.Machine

/-! ### Exposure and credit -/

/-- One round of exposure, and one of credit in phase `p` if the round earned it (R138, R140). -/
def SocketRecord.earn (r : SocketRecord) (credited : Bool) (p : Nat) : SocketRecord :=
  { r with exposure := r.exposure + 1
           credit := if credited then r.credit.set p (r.creditAt p + 1) else r.credit }

/-- The round just ended earned credit for a socket (R140): its gates stayed open, and the mark found no rack hold
and no severe slip. -/
def State.earned (s : State) (hold severe : Bool) (i : Socket) : Bool :=
  s.acu.socketGate[i] && s.acu.stationGate && !hold && !severe

/-- The ACU judges the round just ended for every socket (R138, R140, R141). -/
def State.judgeRound (s : State) (hold severe : Bool) : State :=
  s.mapRecords (fun i r =>
    if s.acu.powered[i] = true ∧ r.exposure < Config.countMax then r.earn (s.earned hold severe i) s.rcu.phase else r)

/-! ### Joining -/

/-- IDLE is entered at the end of the join wait (R23, R21, R14). -/
def State.joinEnd (s : State) : State :=
  { s with rcu := { s.rcu with state := .idle }
           biu := { s.biu with mismatchCount := 0, unheardStreak := 0, sinceUnheard := 0 } }

/-- The mark that comes is the last of the join wait (R23). -/
def State.joinDue (s : State) : Bool :=
  s.rcu.state == .listen && s.biu.synced && s.prof.joinWait ≤ s.biu.joinCount + 1

/-- A mark of the join wait (R23). -/
def State.joinMark (s : State) : State :=
  if s.rcu.state = .listen then
    let due := s.joinDue
    let s := { s with biu := { s.biu with joinCount := s.biu.joinCount + 1 } }
    if due then s.joinEnd else s
  else s

/-- The cause for which a mark in LISTEN or IDLE mutes the station: a frame in its own slot, or a different rack code
(R16, R22, R23). -/
def State.muteAtMark (s : State) : Option MuteCause :=
  match s.rcu.state with
  | .listen =>
    if allStations.any (fun k => s.isOwn k && s.heardFrom k) then some .clash
    else if s.allReports.any (fun r => r.rackCode != s.ldr.rackCode) then some .rack
    else none
  | .idle =>
    if s.peerReports.any (fun p => decide (stationSlot p.1 < s.slot.val) && p.2.rackCode != s.ldr.rackCode) then
      some .rack
    else none
  | _ => none

/-! ### Retry waits -/

/-- A socket's retry wait ends at a mark (R89): its switch closes with no grant. -/
def State.retryDue (s : State) (i : Socket) : Bool :=
  s.socketState i == .retry && s.rlu.sockets[i].retryWait.any (fun k => decide (k ≤ 1))

/-- The sub-states in which a retry wait runs (R89). -/
def State.retries (s : State) : Bool :=
  s.rcu.state == .active && s.rcu.sub != some .recovering && s.rcu.sub != none

/-- One socket's retry wait at a mark (R89). -/
def State.retryMark (s : State) (i : Socket) : State :=
  if s.retryDue i then s.closeSwitch i
  else s.modPower i (fun p => { p with retryWait := p.retryWait.map (· - 1) })

/-- The retry waits at a mark (R89). -/
def State.retryMarks (s : State) : State := if s.retries then allSockets.foldl State.retryMark s else s

/-! ### Starting a run -/

/-- A peer's report is same-plan (R29). -/
def State.samePlan (s : State) (r : StatusReport) : Bool := r.planCode == s.rcu.planCode && s.rcu.planCode != 0

/-- The phases reported by the ACTIVE, same-plan peers heard in the round just ended (R31). -/
def State.joinPhases (s : State) : List Nat :=
  (s.peerReports.filter (fun p =>
    p.2.stateCode == 1 && s.samePlan p.2 && p.2.rackCode == s.ldr.rackCode)).map (fun p => p.2.phase)

/-- The highest of a list of phases; none when it is empty. -/
def highestPhase : List Nat → Option Nat
  | [] => none
  | p :: ps => some (ps.foldl max p)

/-- The targets of the plan's phases, in rounds (R29). -/
def State.planTargets (s : State) : List Nat :=
  (List.range s.rcu.planLength).map (fun p => roundsOf (((s.rcu.entry p).map PlanEntry.minutes).getD 0) s.prof.period)

/-- Place the RAILBASE need and then, in ascending order, the SOCKET needs of the sockets in the given states
(R31, R46). -/
def State.placeBringup (s : State) (wants : SocketState → Bool) : State :=
  allSockets.foldl (fun t i => if wants (t.socketState i) then t.placeNeed (.socket i) else t) (s.placeNeed .railBase)

/-- Enter BRINGUP, or HELD with BRINGUP remembered under rack hold (R31, R38, R46). -/
def State.enterBringup (s : State) (hold : Bool) : State :=
  { s with rcu := { s.rcu with sub := some (if hold then .held else .bringUp)
                               remembered := if hold then some .bringUp else none } }

/-- Run control as a run starts: the join phase with its late mark, and the targets fixed (R29, R31). -/
def Rcu.start (r : Rcu) (join : Option Nat) (targets : List Nat) : Rcu :=
  { r with state := .active, phase := join.getD 0, lateMark := join, intCount := 0, endCause := none
           targets := targets, startPending := false }

/-- A record as a run starts in phase `q`: a credit list of q + 1 entries of 0 (R31, R137). -/
def SocketRecord.newCredit (q : Nat) (r : SocketRecord) : SocketRecord :=
  { r with credit := List.replicate (q + 1) 0 }

/-- START takes effect (R31, R137). -/
def State.startRun (s : State) (hold : Bool) : State :=
  let join := highestPhase s.joinPhases
  let s := State.mapRecords { s with rcu := s.rcu.start join s.planTargets } (fun _ => SocketRecord.newCredit (join.getD 0))
  State.enterBringup (s.placeBringup (fun st => st == .off)) hold

/-! ### Phase agreement -/

/-- A peer entry is considered in phase agreement (R33). -/
def State.considered (s : State) (k : Station) : Bool :=
  let e := s.biu.peers[k]
  !s.isOwn k && (e.presence == .live || e.presence == .silent) && e.report.stateCode == 1 &&
  s.samePlan e.report && !e.rackDiffers

/-- The higher phases that considered peers reported in the round just ended (R33, catch-up). -/
def State.higherPhases (s : State) : List Nat :=
  (allStations.filter (fun k =>
    s.considered k && s.biu.peers[k].presence == .live && decide (s.rcu.phase < s.biu.peers[k].report.phase))).map
    (fun k => s.biu.peers[k].report.phase)

/-- Every considered peer that is no laggard was heard at this phase with its vote true, and so was the station's own
vote, the one fixed at its frame's build (R33, agreement; log entry 30). -/
def State.agreed (s : State) : Bool :=
  s.rcu.sentVote &&
  allStations.all (fun k =>
    let e := s.biu.peers[k]
    !(s.considered k && decide (s.rcu.phase ≤ e.report.phase)) ||
      (e.presence == .live && e.report.phase == s.rcu.phase && e.report.vote))

/-- The candidate phase (R33, steps 1 to 3). -/
def State.advanceCandidate (s : State) : Nat :=
  match highestPhase s.higherPhases with
  | some q => q
  | none => if s.agreed then s.rcu.phase + 1 else s.rcu.phase

/-- The target phase (R33, step 4). -/
def State.advanceTarget (s : State) : Nat :=
  if s.rcu.advance = some s.advanceCandidate then s.advanceCandidate + 1 else s.advanceCandidate

/-- The decision of a mark in RUNNING without rack hold (R33, R34). -/
def State.decidePhase (s : State) : State :=
  let t := s.advanceTarget
  if t = s.rcu.phase then s
  else if t < s.rcu.planLength then s.enterTransition t
  else s.completeRun

/-! ### The sub-states at a mark -/

/-- RUNNING is entered and the pattern started (R32, R39, R42). -/
def State.enterRunning (s : State) (reentry : Nat) : State :=
  State.requestStart { s with rcu := { s.rcu with sub := some .running, remembered := none } } reentry

/-- HELD is entered with a sub-state remembered (R38, R42). -/
def State.enterHeld (s : State) (from_ : SubState) : State :=
  { s with rcu := { s.rcu with sub := some .held, remembered := some from_ } }

/-- A record at a phase change: an entry of 0 for each new phase, and the mismatch streak and soft flag cleared
(R42, R123, R137). -/
def SocketRecord.nextPhase (r : SocketRecord) (gained : Nat) : SocketRecord :=
  { r with credit := r.credit ++ List.replicate gained 0, streak := 0, soft := false }

/-- Run control as the phase index changes: a pending ADVANCE naming the phase left is discarded (R35, R42). -/
def Rcu.arrive (r : Rcu) (target : Nat) : Rcu :=
  { r with phase := target, transit := none, advance := if r.advance = some r.phase then none else r.advance }

/-- The mark after a completed retarget (R42). -/
def State.arrive (s : State) (target : Nat) (hold : Bool) : State :=
  let gained := target - s.rcu.phase
  let s := State.mapRecords { s with rcu := s.rcu.arrive target } (fun _ r => r.nextPhase gained)
  if hold then s.enterHeld .running else s.enterRunning 0

/-- A mark in BRINGUP (R32, R38). -/
def State.bringUpMark (s : State) (hold : Bool) : State :=
  if hold then s.enterHeld .bringUp
  else if s.railsUp && !allSockets.any (fun i => s.socketState i == .powering) then s.enterRunning 0
  else s

/-- A mark in RUNNING (R33, R38, R39). -/
def State.runningMark (s : State) (hold : Bool) : State :=
  if hold then (s.enterHeld .running).requestFinish else s.decidePhase

/-- A mark in TRANSITION (R38, R42). -/
def State.transitionMark (s : State) (hold : Bool) : State :=
  match s.rcu.transit with
  | some t => if t.stage = .complete then s.arrive t.target hold else s
  | none => s

/-- A mark in HELD (R38, R39). -/
def State.heldMark (s : State) (hold : Bool) : State :=
  if hold then s
  else if s.rcu.remembered = some .running then s.enterRunning s.prof.reentry
  else { s with rcu := { s.rcu with sub := some .bringUp, remembered := none } }

/-- The mark that comes meets the conditions on the end of RECOVERING (R46). -/
def State.recoveryDue (s : State) : Bool :=
  s.prof.recoveryWait ≤ s.rcu.recoverMarks + 1 &&
  (!s.rcu.recoverBulk || !s.rlu.bulkLow) &&
  (!s.rcu.recoverUnheard || decide (s.prof.lostThreshold ≤ s.biu.sinceUnheard))

/-- RECOVERING ends (R46). -/
def State.recoveryEnd (s : State) (hold : Bool) : State :=
  State.enterBringup (s.placeBringup (fun st => st == .parked || st == .off)) hold

/-- One more mark of the recovery wait (R46). -/
def State.countRecovery (s : State) : State :=
  { s with rcu := { s.rcu with recoverMarks := s.rcu.recoverMarks + 1 } }

/-- A mark in RECOVERING (R46). -/
def State.recoveringMark (s : State) (hold : Bool) : State :=
  let due := s.recoveryDue
  let s := s.countRecovery
  if due then s.recoveryEnd hold else s

/-- Run control at a mark (R30 to R46). A pending START is taken up or discarded; a slot clash discards it (R15). -/
def State.runMark (s : State) (hold clash : Bool) : State :=
  match s.rcu.state with
  | .idle =>
    if s.rcu.startPending && s.rcu.planComplete && !clash then s.startRun hold
    else { s with rcu := { s.rcu with startPending := false } }
  | .active =>
    match s.rcu.sub with
    | some .bringUp => s.bringUpMark hold
    | some .running => s.runningMark hold
    | some .transition => s.transitionMark hold
    | some .held => s.heldMark hold
    | some .recovering => s.recoveringMark hold
    | none => s
  | _ => s

/-! ### Heating and the gates of the new round -/

/-- The sub-states whose entry sets a schedule anchor (R101). -/
def SubState.anchors : SubState → Bool
  | .recovering => false
  | _ => true

/-- The THU at a mark: the token count check, then a new anchor if the mark entered a heating sub-state, `before` being
the sub-state the mark found (R99, R101, R105; log entry 7). -/
def State.heatMark (s : State) (before : Option SubState) : State :=
  if s.rcu.state = .active then
    let s := s.dropIneligible.tokenCheck
    if s.rcu.sub ≠ before ∧ s.rcu.sub.any SubState.anchors = true then s.setAnchor else s
  else s

/-- The gates and the powered marks of the round that begins (R138 to R140). -/
def State.openGates (s : State) : State :=
  { s with acu := { s.acu with
      stationGate := s.rcu.state == .active && s.rcu.sub == some .running && s.ptu.engine != .stopped
      socketGate := Vector.ofFn (fun i : Socket => s.acu.records[i].state == .running)
      powered := Vector.ofFn (fun i : Socket => s.rlu.sockets[i].closed) } }

/-! ### The mark -/

/-- The mark is one at which the unheard streak reaches L (R21). -/
def State.unheardSignal (s : State) : Bool :=
  s.transmits && s.heardFinding == some false && s.biu.unheardStreak + 1 == s.prof.lostThreshold

/-- The readback-mismatch count stands at 2L (R15). -/
def State.clashCount (s : State) : Bool := s.transmits && decide (2 * s.prof.lostThreshold ≤ s.biu.mismatchCount)

/-- The blocks' work at a mark, once the BIU has done its own (R54, R64, R89, R105, R138 to R140). -/
def State.blocksMark (s : State) (f : MarkFacts) (hold : Bool) : State :=
  let s := (s.budgetMark f).retryMarks.joinMark
  (((s.runMark hold s.clashCount).heatMark s.rcu.sub).openGates).beginRound

/-- The signals of a mark, taken after it: UNHEARD, then the slot clash (R15, R21, R64; log entry 13). -/
def State.markSignals (s : State) (unheard : Bool) : State :=
  let s := if unheard then s.interrupt .unheard else s
  if s.clashCount then s.clash else s

/-- A reply still due as its round ends is lost: the frame of that round, which was to carry it, has not been sent (R146, R172).
A mark that enters MUTED holds the due mark as it stood (R146; log entry 37). -/
def State.loseReply (s : State) : State :=
  if s.rcu.state = .muted then s else { s with acu := { s.acu with readDue := none } }

/-- A mark after the sync mark, with the slip it captures (R5, R7, R142). In IDLE a lower slot's rack code that differs (R22)
is judged before the mismatch count (R15), so where both mute the station the cause is RACK: the model's choice (log entry
38). -/
def State.laterMark (s : State) (slip : Nat) : State :=
  let facts := s.markFacts
  let hold := s.rackHold
  let mute := s.muteAtMark
  let unheard := s.unheardSignal
  let s := (s.judgeRound hold (driftSevereOf slip s.prof.period)).biuMark slip
  match mute with
  | some cause => s.beginRound.enterMuted cause
  | none => ((s.blocksMark facts hold).markSignals unheard).loseReply

/-- A mark is accepted (R5, R6). -/
def State.acceptMark (s : State) (slip : Nat) : State :=
  if s.biu.synced then s.laterMark slip else s.syncMark

end Sys2Proof.Machine
end

