-- ==== Sys2Proof/Machine/Rounds.lean ====
section
/-! DEFINITION. The rows of the round: marks, the waits that end at a mark, and the half-round scan (R4, R5, R23, R46,
R89, R94). -/

namespace Sys2Proof.Machine

/-- A falling edge on CBM (R5, R6): accepted while unsynchronised or with half a round or less remaining, a runt mark
otherwise. -/
def State.edge (s : State) : State :=
  if s.running = false then s
  else if s.biu.synced = true ∧ s.prof.period * 500 < s.biu.roundTimer then s
  else s.acceptMark s.biu.roundTimer

/-- The round timer expires: the station's own pulse begins, and the expiry is its mark with slip 0 (R4, R6). A timer that
an edge has reloaded before the expiry is taken does not expire (R4). -/
def State.expire (s : State) : State :=
  if s.running = true ∧ s.biu.roundTimer = 0 then
    State.acceptMark { s with biu := { s.biu with cbmPulse := usTicks Config.markPulseUs } } 0
  else s

/-- The join wait ends (R23), taken by itself (log entry 5). -/
def State.endJoinWait (s : State) : State := if s.joinDue = true ∧ s.muteAtMark = none then s.joinEnd else s

/-- RECOVERING ends (R46, R101), taken by itself (log entry 5). -/
def State.endRecovering (s : State) : State :=
  if s.rcu.state = .active ∧ s.rcu.sub = some .recovering ∧ s.recoveryDue = true then
    (s.recoveryEnd s.rackHold).setAnchor
  else s

/-- A socket's retry wait ends (R89), taken by itself (log entry 5). -/
def State.endRetryWait (s : State) (i : Socket) : State :=
  if s.retries = true ∧ s.retryDue i = true then s.closeSwitch i else s

/-- The half-round scan is requested if the mark scan found a powered WARM socket (R94; log entry 29). -/
def State.halfRound (s : State) : State :=
  if s.running = true ∧ s.thu.markScanWarm = true then
    State.requestScan { s with thu := { s.thu with markScanWarm := false } } .half
  else s

/-- ROUND_TIMER_EXPIRY (R4). -/
def execRoundTimerExpiry (s : State) : Host.Outcome State Fault Refusal := .next s.expire

/-- MARK (R5). -/
def execMark (s : State) : Host.Outcome State Fault Refusal := .next s.edge

/-- JOIN_WAIT_END (R23). -/
def execJoinWaitEnd (s : State) : Host.Outcome State Fault Refusal := .next s.endJoinWait

/-- RECOVERING_END (R46). -/
def execRecoveringEnd (s : State) : Host.Outcome State Fault Refusal := .next s.endRecovering

/-- RETRY_WAIT_END (R89). -/
def execRetryWaitEnd (socket : Socket) (s : State) : Host.Outcome State Fault Refusal := .next (s.endRetryWait socket)

/-- HALF_ROUND_SCAN (R94). -/
def execHalfRoundScan (s : State) : Host.Outcome State Fault Refusal := .next s.halfRound

end Sys2Proof.Machine
end

