-- ==== Sys2Proof/Machine/StartUp.lean ====
section
/-! DEFINITION. The rows of reset and the profile load (R173 to R180). -/

namespace Sys2Proof.Machine

/-- RESET_N falls: every block takes its values after pin reset. The DOOR line, the commands that wait and the counts
of response samples and conversions are not the station's (R173; log entries 3, 14, 20 and 22). -/
def State.pinReset (s : State) : State :=
  { State.reset with door := s.door, pending := s.pending, ptu := { Ptu.initial with samples := s.ptu.samples }
                     scanner := { Scanner.initial with conversions := s.scanner.conversions } }

/-- RESET_N rises in RESET: the straps are latched and the load begins (R174, R175; log entry 20). -/
def State.releaseReset (s : State) (slot : Slot) (rate : Bool) : State :=
  if s.rcu.state = .reset then
    { s with rcu := { s.rcu with state := .loading }
             ldr := { s.ldr with straps := some { slot := slot, rate := rate }, portSelect := true
                                 portSent := readRequest, portClock := 0 } }
  else s

/-- The parameters are handed on, sockets outside the mask are excluded, and DRV carries the idle value (R132, R179,
R180). -/
def State.handOnProfile (s : State) (p : Profile) (image : List Byte) : State :=
  let s := { s with ldr := { s.ldr with profile := some p, image := image, rackCode := rackCodeOf image
                                        portSelect := false }
                    ptu := { s.ptu with drv := p.idleDrive } }
  s.mapRecords (fun i r => if p.enableMask.getLsbD i.val then r else { r with state := .excluded, source := some .profile })

/-- LISTEN is entered, unsynchronised (R6, R17, R23). -/
def State.enterListen (s : State) : State :=
  { s with rcu := { s.rcu with state := .listen }
           biu := { s.biu with roundTimer := 2 * s.prof.period * 1000, usPhase := 0, synced := false, joinCount := 0
                               peers := Vector.replicate 30 Peer.blank } }

/-- The load fails (R175, R180). -/
def State.failLoad (s : State) : State :=
  { s with rcu := { s.rcu with state := .loadFail }, ldr := { s.ldr with portSelect := false } }

/-- The load of an image from this memory ends in LOADING, at the clock that ends its last byte, the select released and the
clock stopped; at any other instant it does not end (R175 to R180; log entry 19). -/
def State.endLoad (s : State) (memory : List Byte) : State :=
  if s.loadEnds memory then
    match judgeProfile s.rate memory with
    | none => s.failLoad
    | some (p, image) =>
      let s := s.handOnProfile p image
      if 2 ≤ s.slot.val then s.enterListen else s.enterMuted .strap
  else s

/-- PIN_RESET (R173). -/
def execPinReset (s : State) : Host.Outcome State Fault Refusal := .next s.pinReset

/-- RESET_RELEASE (R174). -/
def execResetRelease (slot : Slot) (rate : Bool) (s : State) : Host.Outcome State Fault Refusal :=
  .next (s.releaseReset slot rate)

/-- PROFILE_LOAD_END (R180). -/
def execProfileLoadEnd (memory : List Byte) (s : State) : Host.Outcome State Fault Refusal := .next (s.endLoad memory)

end Sys2Proof.Machine
end

