-- ==== Sys2Proof/Machine/Dispatch.lean ====
section
/-! DEFINITION. The meaning of every command: one arm each. -/

namespace Sys2Proof.Machine

/-- Run one command. -/
def exec (i : Instr) (s : State) : Host.Outcome State Fault Refusal :=
  match i with
  | .pinReset => Sys2Proof.Machine.execPinReset s
  | .resetRelease slot rate => Sys2Proof.Machine.execResetRelease slot rate s
  | .profileLoadEnd memory => Sys2Proof.Machine.execProfileLoadEnd memory s
  | .roundTimerExpiry => Sys2Proof.Machine.execRoundTimerExpiry s
  | .mark => Sys2Proof.Machine.execMark s
  | .joinWaitEnd => Sys2Proof.Machine.execJoinWaitEnd s
  | .recoveringEnd => Sys2Proof.Machine.execRecoveringEnd s
  | .retryWaitEnd socket => Sys2Proof.Machine.execRetryWaitEnd socket s
  | .halfRoundScan => Sys2Proof.Machine.execHalfRoundScan s
  | .statusFrameBuild => Sys2Proof.Machine.execStatusFrameBuild s
  | .readbackMismatch => Sys2Proof.Machine.execReadbackMismatch s
  | .statusFrameEnd => Sys2Proof.Machine.execStatusFrameEnd s
  | .frameReceived slot bytes => Sys2Proof.Machine.execFrameReceived slot bytes s
  | .frameBroken slot => Sys2Proof.Machine.execFrameBroken slot s
  | .cmdPlan args => Sys2Proof.Machine.execCmdPlan args s
  | .cmdStart => Sys2Proof.Machine.execCmdStart s
  | .cmdHold => Sys2Proof.Machine.execCmdHold s
  | .cmdResume => Sys2Proof.Machine.execCmdResume s
  | .cmdAdvance phase => Sys2Proof.Machine.execCmdAdvance phase s
  | .cmdAbort => Sys2Proof.Machine.execCmdAbort s
  | .cmdExclude socket => Sys2Proof.Machine.execCmdExclude socket s
  | .cmdInclude socket => Sys2Proof.Machine.execCmdInclude socket s
  | .cmdRead socket => Sys2Proof.Machine.execCmdRead socket s
  | .cmdTake => Sys2Proof.Machine.execCmdTake s
  | .cmdClear => Sys2Proof.Machine.execCmdClear s
  | .invalidCommand code => Sys2Proof.Machine.execInvalidCommand code s
  | .socketCurrentReading socket current => Sys2Proof.Machine.execSocketCurrentReading socket current s
  | .instantTrip socket current => Sys2Proof.Machine.execInstantTrip socket current s
  | .socketSettleEnd socket => Sys2Proof.Machine.execSocketSettleEnd socket s
  | .railReading rail voltage => Sys2Proof.Machine.execRailReading rail voltage s
  | .railSettleTimeout rail => Sys2Proof.Machine.execRailSettleTimeout rail s
  | .railFallTimeout rail => Sys2Proof.Machine.execRailFallTimeout rail s
  | .bulkReading voltage => Sys2Proof.Machine.execBulkReading voltage s
  | .boardCurrentReading current => Sys2Proof.Machine.execBoardCurrentReading current s
  | .temperatureReading socket code => Sys2Proof.Machine.execTemperatureReading socket code s
  | .scanCompletion => Sys2Proof.Machine.execScanCompletion s
  | .heaterPeriodStart heater => Sys2Proof.Machine.execHeaterPeriodStart heater s
  | .heaterOnEnd heater => Sys2Proof.Machine.execHeaterOnEnd heater s
  | .passEnd => Sys2Proof.Machine.execPassEnd s
  | .doorChange asserted => Sys2Proof.Machine.execDoorChange asserted s
  | .framingError slot => Sys2Proof.Machine.execFramingError slot s

end Sys2Proof.Machine
end

