-- ==== Sys2Proof/Machine/Pins.lean ====
section
/-! DEFINITION. The board lines the station drives, as views of the state, beside those of Wire.lean (00_scope.md, "Signal descriptions"; R1, R26,
R70, R82, R102, R111, R147, R173). -/

namespace Sys2Proof.Machine

/-- The station drives CBD: it sends a status frame (R1, R11). The level is `State.cbdLevel`. -/
def State.drivesCbd (s : State) : Bool := s.sends

/-- The station drives CBM low: its mark pulse lasts (R1, R4). -/
def State.drivesCbm (s : State) : Bool := s.biu.cbmPulse != 0

/-- RAIL_EN of a rail (R70). -/
def State.railEnable (s : State) (r : Rail) : Bool :=
  match s.railState r with
  | .ramping | .up | .retargeting => true
  | .off | .falling => false

/-- RAIL_LVL of a rail (R70). -/
def State.railLevelLine (s : State) (r : Rail) : Fin 4 :=
  if s.railState r = .off then 0 else s.rlu.rails[r.ix].level

/-- SW of a socket (R82). -/
def State.switchLine (s : State) (i : Socket) : Bool := s.rlu.sockets[i].closed

/-- HTR of a socket (R102). -/
def State.heaterLine (s : State) (i : Socket) : Bool := s.thu.heaters[i].phase == .on

/-- The stimulus drive lines DRV (R111). -/
def State.driveLines (s : State) : Byte := s.ptu.drv

/-- DCLK (R111, R112). -/
def State.clockLine (s : State) : Bool := s.ptu.dclk

/-- FAULT (R26). -/
def State.faultLine (s : State) : Bool := s.rcu.state == .loadFail || s.rcu.state == .muted

/-- FAIL: some socket is FAILED (R147). -/
def State.failLine (s : State) : Bool := allSockets.any (fun i => s.socketState i == .failed)

/-- The profile port's select (R173, R175). -/
def State.portSelectLine (s : State) : Bool := s.ldr.portSelect

end Sys2Proof.Machine
end

