-- ==== Sys2Proof/Safety.lean ====
section
/-! DEFINITION. What is to hold of every state of the machine, and between the states before and after a step: the
device laws that one station can show (R66, R82, R103, R135, R141, R154), a power-down, a trip or failure of a socket, and
what a profile image spells (R187). -/

namespace Sys2Proof.Machine

/-- The eighth law, first part: at most 48 entries (R154). -/
def State.historyBounded (s : State) : Prop := s.acu.history.length ≤ Config.historyCap

/-- The fifth law: the sum of a socket's credit list never exceeds its exposure (R141). -/
def State.creditBounded (s : State) : Prop := ∀ i : Socket, s.acu.records[i].credit.sum ≤ s.acu.records[i].exposure

/-- The third law, first part: no more heaters are in their on-phase than there are tokens (R103). -/
def State.tokensCover (s : State) : Prop := s.thu.onCount ≤ s.thu.tokens

/-- A switch is closed exactly while its socket is POWERING, SETTLED or RUNNING (R82, R133). -/
def State.switchesAgree (s : State) : Prop := ∀ i : Socket, s.rlu.sockets[i].closed = (s.socketState i).powered

/-- The seventh law across a step: a FAILED socket stays FAILED with its failure part unchanged (R135). -/
def State.keepsFailed (s t : State) : Prop :=
  ∀ i : Socket, s.socketState i = .failed →
    t.socketState i = .failed ∧ t.acu.records[i].failure = s.acu.records[i].failure

/-- The wait queue holds each WAITING heater once and no other (R102, R104). -/
def State.queueMatches (s : State) : Prop :=
  s.thu.waitQueue.Nodup ∧ ∀ i : Socket, i ∈ s.thu.waitQueue ↔ s.thu.heaters[i].phase = .waiting

/-- A free token and a waiting heater never stand together (R104). -/
def State.noIdleToken (s : State) : Prop := s.thu.waitQueue ≠ [] → s.thu.tokens ≤ s.thu.onCount

/-- The third law's pool: the tokens cover the heaters that are on, none lies idle, and the queue is in order. -/
def State.poolInOrder (s : State) : Prop := s.tokensCover ∧ s.noIdleToken ∧ s.queueMatches

/-- From `s` to `t` the power-down of a winddown has started (R49, R68, R76): with every rail OFF it is over, with nothing held;
otherwise the own held has lost the tokens and the allowances of the holding sockets, their switches are open, and the first
rail in the order C, B, A that is not OFF is FALLING, its enable released, its level kept and its settle time started. -/
def State.windsDown (s t : State) : Prop :=
  t.thu.tokens = 0 ∧ t.rlu.deferred = false ∧
  (∀ i : Socket, t.heaterLine i = false ∧ ((s.socketState i).holds = true → t.switchLine i = false)) ∧
  (s.railsOff = true → t.rcu.state = .done ∧ t.bdu.ownHeld = 0) ∧
  (s.railsOff = false → t.rcu.state = .windDown ∧ t.rcu.poweringDown = true ∧
    t.bdu.ownHeld = s.bdu.ownHeld - s.thu.tokens * s.prof.nominal -
      ((allSockets.filter (fun i => (s.socketState i).holds)).map (fun i => s.rlu.sockets[i].allowance)).sum) ∧
  ∀ r : Rail, s.railState r ≠ .off → (∀ q : Rail, r.ix < q.ix → s.railState q = .off) →
    t.railState r = .falling ∧ t.railEnable r = false ∧ t.railLevelLine r = s.rlu.rails[r.ix].level ∧
    t.rlu.rails[r.ix].timer = some (msTicks s.prof.railSettle[r.ix]) ∧
    ∀ q : Rail, q ≠ r → t.rlu.rails[q.ix] = s.rlu.rails[q.ix]

/-! ### Entries, and the loss of a socket -/

/-- From `s` to `t` the failure history has taken one entry: at its tail while it holds fewer than 48, and otherwise it is
dropped with the overflow flag set (R149, R155, R156). -/
def State.takesEntry (s t : State) (e : Entry) : Prop :=
  (s.acu.history.length < 48 → t.acu.history = s.acu.history ++ [e] ∧ t.acu.overflow = s.acu.overflow) ∧
  (48 ≤ s.acu.history.length → t.acu.history = s.acu.history ∧ t.acu.overflow = true)

/-- An entry about a socket at this instant: the phase index, the round number, and the socket's credit in the phase (R151). -/
def State.entryOf (s : State) (i : Socket) (finding : Finding) (final : Bool) : Entry :=
  { finding := finding, final := final, socket := some i, phase := s.rcu.phase, round := s.biu.roundNumber
    credit := some (s.acu.records[i].creditAt s.rcu.phase) }

/-- From `s` to `t` socket `i` has lost its power, `released` of the own held going with it (R65, R89, R90, R97, R100, R104,
R119, R138, R140): its switch is open, its heater forced off, it is out of the membership set, its gate and its powered round
have ended, and no other socket's switch or record has moved. A token its heater returned under a pending release is gone, with
the nominal current. -/
def State.dropsSocket (s t : State) (i : Socket) (released : Nat) : Prop :=
  let gone := s.thu.releasePending && s.thu.heaters[i].phase == .on
  t.switchLine i = false ∧ (s.queueMatches → t.heaterLine i = false) ∧
  t.thu.heaters[i].onTime = 0 ∧ t.thu.heaters[i].inForce = 0 ∧ t.thu.heaters[i].tripStreak = 0 ∧
  t.thu.tokens = s.thu.tokens - (if gone then 1 else 0) ∧
  t.bdu = { s.bdu with ownHeld := s.bdu.ownHeld - (if gone then s.prof.nominal else 0) - released } ∧
  t.ptu = { s.ptu with members := s.ptu.members.set i false } ∧
  t.acu.socketGate = s.acu.socketGate.set i false ∧ t.acu.powered = s.acu.powered.set i false ∧
  (∀ j : Socket, j ≠ i → t.acu.records[j] = s.acu.records[j] ∧ t.rlu.sockets[j] = s.rlu.sockets[j]) ∧
  t.rlu = { s.rlu with sockets := t.rlu.sockets } ∧
  t.rcu = s.rcu ∧ t.biu = s.biu ∧ t.scanner = s.scanner ∧ t.ldr = s.ldr

/-- From `s` to `t` socket `i` has failed for good (R84, R85, R89, R97, R123, R135): it is FAILED with its failure part, its
allowance is released and no longer in force, its timers and streaks have stopped, FAIL is asserted, and its final entry is
written. -/
def State.failsSocket (s t : State) (i : Socket) (kind : FailKind) (finding : Finding) : Prop :=
  s.dropsSocket t i s.rlu.sockets[i].allowance ∧ t.rlu.sockets[i] = SocketPower.initial ∧ t.failLine = true ∧
  t.acu.records[i] = { s.acu.records[i] with
    state := .failed, source := none
    failure := some { kind := kind, phase := s.rcu.phase, credit := s.acu.records[i].creditAt s.rcu.phase } } ∧
  s.takesEntry t (s.entryOf i finding true)

/-- From `s` to `t` socket `i` has tripped with a detail current (R87 to R89). Below the retry limit it waits in RETRY, its
retries used one more, the retry wait started and its allowance kept, and a non-final entry carries the new retries used; at the
limit it fails, the entry carrying the retries used as they are. -/
def State.tripsSocket (s t : State) (i : Socket) (detail : Nat) : Prop :=
  let used := s.acu.records[i].retries
  (used < s.prof.retryLimit →
    s.dropsSocket t i 0 ∧
    t.rlu.sockets[i] = { SocketPower.initial with
      allowance := s.rlu.sockets[i].allowance, threshold := s.rlu.sockets[i].threshold
      retryWait := some s.prof.retryWait } ∧
    t.acu.records[i] = { s.acu.records[i] with state := .retry, retries := used + 1 } ∧
    s.takesEntry t (s.entryOf i (.overcurrent detail (used + 1)) false)) ∧
  (s.prof.retryLimit ≤ used → s.failsSocket t i .overcurrent (.overcurrent detail used))

/-! ### What an image spells -/

/-- Every parameter, loop and vector of a profile stands in the image at its offset (R187). -/
def Profile.spelledBy (p : Profile) (image : List Byte) : Prop :=
  p.budget = u16At image 5 ∧ p.period = byteAt image 7 ∧ p.lostThreshold = byteAt image 8 ∧ p.joinWait = byteAt image 9 ∧
  p.enableMask.toNat = u16At image 10 ∧
  (∀ (r : Fin 3) (l : Fin 4), p.levels[r][l] = u16At image (12 + 8 * r.val + 2 * l.val)) ∧
  p.tolerance = u16At image 36 ∧ (∀ r : Fin 3, p.railSettle[r] = byteAt image (38 + r.val)) ∧
  p.socketSettle = byteAt image 41 ∧
  (∀ l : Fin 4, p.base[l] = u16At image (42 + 2 * l.val) ∧ p.allowance[l] = u16At image (50 + 2 * l.val)) ∧
  p.openFloor = u16At image 58 ∧ p.tripDebounce = byteAt image 60 ∧ p.retryLimit = byteAt image 61 ∧
  p.retryWait = byteAt image 62 ∧ p.interruptionLimit = byteAt image 63 ∧ p.recoveryWait = byteAt image 64 ∧
  p.bulkThreshold = u16At image 65 ∧ p.nominal = u16At image 67 ∧ p.heaterPeriod = u16At image 69 ∧
  p.heaterStep = u16At image 71 ∧ p.maxTokens = byteAt image 73 ∧ p.tripMargin = byteAt image 74 ∧
  p.functionalThreshold = byteAt image 75 ∧ p.reentry = byteAt image 76 ∧ p.idleDrive.toNat = byteAt image 77 ∧
  p.loops.length = byteAt image 2 ∧ p.vectors.length = u16At image 3 ∧
  (∀ (k : Nat) (l : Loop), p.loops[k]? = some l →
    let o := 78 + 9 * k
    l.first = u16At image o ∧ l.count = u16At image (o + 2) ∧ l.latency = byteAt image (o + 4) ∧
    l.sigTrue.toNat = u16At image (o + 5) ∧ l.sigInverted.toNat = u16At image (o + 7)) ∧
  (∀ (k : Nat) (v : PatternVector), p.vectors[k]? = some v →
    let o := 78 + 9 * byteAt image 2 + 3 * k
    v.drive.toNat = byteAt image o ∧ v.compare = bitOf (byteAt image (o + 1)) 0 ∧ v.clocks = byteAt image (o + 2) + 1)

/-! ### The second law, and the laws together -/

/-- What the second and third laws need of the parameters (R177, R178): no amount is 0, and amounts rise with the level. -/
def Profile.paysInOrder (p : Profile) : Prop :=
  1 ≤ p.nominal ∧ (∀ l : Fin 4, 1 ≤ p.base[l] ∧ 1 ≤ p.allowance[l]) ∧
  ∀ l m : Fin 4, l ≤ m → p.base[l] ≤ p.base[m] ∧ p.allowance[l] ≤ p.allowance[m]

/-- A run is under way and its power-down has not begun (R66). -/
def State.engaged (s : State) : Prop :=
  s.rcu.state = .active ∨ (s.rcu.state = .windDown ∧ s.rcu.poweringDown = false)

/-- The profile is not yet loaded (R175). -/
def State.unloaded (s : State) : Prop :=
  s.rcu.state = .reset ∨ s.rcu.state = .loading ∨ s.rcu.state = .loadFail

/-- The base allowance that the own held includes: none before the RAILBASE grant and after the rails are down (R66, R71). -/
def State.baseHeld (s : State) : Nat :=
  if s.railsOff = true ∧ s.rlu.deferred = false then 0 else s.prof.base[s.levelInForce]

/-- The sum of R66: the base allowance, an allowance for each socket that holds one, and a nominal current for each token. -/
def State.heldSum (s : State) : Nat :=
  s.baseHeld + s.holders * s.prof.allowance[s.levelInForce] + s.thu.tokens * s.prof.nominal

/-- The rails have to carry: some socket holds an allowance, or the station is RUNNING, in TRANSITION, or held from RUNNING. -/
def State.loaded (s : State) : Prop :=
  s.holders ≠ 0 ∨ s.rcu.sub = some .running ∨ s.rcu.sub = some .transition ∨
  (s.rcu.sub = some .held ∧ s.rcu.remembered = some .running)

/-- The station sends, or has sent, its frame of the round in progress (R11, R14). -/
def State.framePublished (s : State) : Prop := s.biu.tx = .sending ∨ s.biu.tx = .sentWhole

/-- The final entries of a history: each names a FAILED socket, and no two name one socket (R154). -/
def State.finalsNameFailed (s : State) : Prop :=
  (∀ e ∈ s.acu.history, e.final = true → ∃ i : Socket, e.socket = some i ∧ s.socketState i = .failed) ∧
  (s.acu.history.filter Entry.final).Pairwise (fun e f => e.socket ≠ f.socket)

/-- An unpowered socket's heater is off and has no on-time (R99, R135). -/
def State.unpoweredAreCold (s : State) : Prop :=
  ∀ i : Socket, (s.socketState i).powered = false →
    s.thu.heaters[i].phase ≠ .on ∧ s.thu.heaters[i].phase ≠ .waiting ∧ s.thu.heaters[i].onTime = 0

/-- The need queue of a run (R46, R55 to R58, R60). -/
structure State.NeedsInOrder (s : State) : Prop where
  /-- No need stands in the queue twice (R55). -/
  nodup : s.bdu.queue.Nodup
  /-- A RAILBASE need waits only while every rail is OFF (R31, R46). -/
  railBase : .railBase ∈ s.bdu.queue → s.railsOff = true ∧ s.rlu.deferred = false
  /-- A SOCKET need is for an OFF or PARKED socket (R55, R83). -/
  socket : ∀ i : Socket, .socket i ∈ s.bdu.queue → s.socketState i = .off ∨ s.socketState i = .parked
  /-- A TRANSITION need waits in a transition that waits for its grant (R41). -/
  transition : .transition ∈ s.bdu.queue → ∃ t, s.rcu.transit = some t ∧ t.stage = .granting
  /-- In RECOVERING nothing is asked for and nothing is held (R46, R68). -/
  recovering : s.rcu.sub = some .recovering →
    s.bdu.queue = [] ∧ s.railsOff = true ∧ s.rlu.deferred = false ∧ s.thu.tokens = 0
  /-- A target stands in TRANSITION alone (R40, R42, R44). -/
  target : s.rcu.transit ≠ none → s.rcu.sub = some .transition
  /-- A SOCKET need asked for, and still waiting, was asked for while the rails carried (R60). -/
  asked : ∀ i : Socket, s.framePublished → s.bdu.sentNeed = some (.socket i) → .socket i ∈ s.bdu.queue →
    .railBase ∉ s.bdu.queue → s.railsCarry = true

/-- The device laws that one station can show (R66, R82, R103, R135, R154), with what carries them from step to step. -/
structure State.Lawful (s : State) : Prop where
  pool : s.poolInOrder
  switches : s.switchesAgree
  cold : s.unpoweredAreCold
  finals : s.finalsNameFailed
  /-- Before the load the history is empty (R149, R173). -/
  fresh : s.unloaded → s.acu.history = []
  profile : ¬s.unloaded → s.prof.paysInOrder
  /-- The own held is the sum of R66, and each allowance in force is the one at the level in force for sockets (R57). -/
  sum : s.engaged → s.bdu.ownHeld = s.heldSum
  allowances : s.engaged → ∀ i : Socket, s.rlu.sockets[i].allowance =
    if (s.socketState i).holds then s.prof.allowance[s.levelInForce] else 0
  /-- The rails carry whatever has been powered (R32, R60, R82). -/
  carry : s.engaged → s.loaded → s.railsCarry = true
  /-- In a run no rail falls, and the rails after one that ramps are OFF (R71, R76). -/
  rails : s.engaged → ∀ r : Rail, s.railState r ≠ .falling ∧
    (s.railState r = .ramping → ∀ q : Rail, r.ix < q.ix → s.railState q = .off)
  deferred : s.engaged → s.rlu.deferred = true → s.railsOff = true
  needs : s.rcu.state = .active → s.NeedsInOrder
  /-- In WINDDOWN nothing is asked for (R49). -/
  windDown : s.rcu.state = .windDown → s.bdu.queue = [] ∧ s.rcu.transit = none
  /-- In a power-down no rail ramps, and the rails after one that falls are OFF (R76). -/
  falling : s.rcu.state = .windDown → s.rcu.poweringDown = true →
    s.rlu.deferred = false ∧ ∀ r : Rail, s.railState r ≠ .ramping ∧
      (s.railState r = .falling → ∀ q : Rail, r.ix < q.ix → s.railState q = .off)
  /-- Outside a run no socket holds an allowance, and there is no token (R50, R66, R103). -/
  rest : ¬s.engaged → s.holders = 0 ∧ s.thu.tokens = 0 ∧ ∀ i : Socket, s.rlu.sockets[i].allowance = 0
  /-- Before and after a run nothing is held, asked for or driven (R50, R54, R70). -/
  idle : s.rcu.state ≠ .active → s.rcu.state ≠ .windDown → s.rcu.state ≠ .muted →
    s.bdu.ownHeld = 0 ∧ s.bdu.queue = [] ∧ s.railsOff = true ∧ s.rlu.deferred = false ∧ s.rcu.transit = none
  /-- A MUTED station holds nothing, and its rails are down (R15, R24, R66). -/
  muted : s.rcu.state = .muted → s.bdu.ownHeld = 0 ∧ s.railsOff = true ∧ s.rlu.deferred = false

/-- What is read once, at reset: the straps and the board profile (R174, R180). -/
def State.sameLoad (s t : State) : Prop :=
  t.ldr.straps = s.ldr.straps ∧ t.ldr.profile = s.ldr.profile ∧ t.ldr.rackCode = s.ldr.rackCode

end Sys2Proof.Machine

namespace Sys2Proof

open Machine in
/-- The commands that may end a FAILED state: PIN_RESET, the load, CLEAR, and a frame that carries CLEAR (R133). -/
def Instr.mayClear : Instr → Bool
  | .pinReset | .profileLoadEnd _ | .cmdClear => true
  | .frameReceived slot bytes => (parseCommand slot.val bytes).any (fun f => f.code == 11)
  | _ => false

/-- The code of a command row's command (R183); none for the other rows. -/
def Instr.commandCode : Instr → Option (BitVec 4)
  | .cmdPlan _ => some 1
  | .cmdStart => some 2
  | .cmdHold => some 3
  | .cmdResume => some 4
  | .cmdAdvance _ => some 5
  | .cmdAbort => some 6
  | .cmdExclude _ => some 7
  | .cmdInclude _ => some 8
  | .cmdRead _ => some 9
  | .cmdTake => some 10
  | .cmdClear => some 11
  | _ => none

open Machine in
/-- The states in which a command is taken: the column "Taken in" of R164. -/
def Instr.takenIn : Instr → StationState → Bool
  | .cmdPlan _, st | .cmdStart, st | .cmdInclude _, st => st == .idle
  | .cmdAdvance _, st | .cmdAbort, st => st == .active
  | .cmdExclude _, st => st == .idle || st == .active
  | .cmdClear, st => st == .idle || st == .done
  | .cmdHold, st | .cmdResume, st | .cmdRead _, st | .cmdTake, st =>
    st == .idle || st == .active || st == .windDown || st == .done
  | _, _ => false

end Sys2Proof
end

