-- ==== Sys2Proof/Certificates/Slice0/Obligations.lean ====
section
/-! DEFINITION. The statements for the provers. -/

open Sys2Proof Sys2Proof.Machine

/-! ### The queue and the clock -/

/-- A step takes the command at the front of the queue and runs it with the queue's rest. -/
def Obligations.StepRunsTheFrontCommand : Prop :=
  ∀ (s : State) (c : Instr) (rest : List Instr),
    s.pending = c :: rest → step s = exec c { s with pending := rest }

/-- What is due at an instant joins the empty queue (R72, R76, R80, R81, R83, R101, R102): a conversion that ends, its reading
not handed over, with a free value for the reading; then the completion of a scan; then the event of every timer that has run
out, and no other, each timer being stopped; then the end of a load that has read 16 384 bytes (R175). That these come before
the clock moves on, in this order, that a reading no command gave is a free value, and that a load no command has ended has the
longest image, which is a profile error whatever it holds, is the model's choice (log entries 1, 19 and 22). -/
def Obligations.DueEventsJoinTheQueue : Prop :=
  ∀ s : State, s.pending = [] →
    (∀ input, s.running = true → s.scanner.place % 800 = 0 → s.scanner.converting = some input →
      step s = .next { s with scanner := { s.scanner with conversions := s.scanner.conversions + 1 }
                              pending := [input.reading (Config.conversion s.scanner.conversions)] }) ∧
    (s.ending = none → s.running = true → s.scanner.scan ≠ none → s.scanner.channel = 16 →
      step s = .next { s with pending := [.scanCompletion] }) ∧
    (s.ending = none → s.scanEnds = false → s.timersDue ≠ [] →
      ∃ t, step s = .next t ∧ t.pending = s.timersDue ∧ t.rcu = s.rcu ∧ t.biu = s.biu ∧ t.bdu = s.bdu ∧
        t.acu = s.acu ∧ t.ptu = s.ptu ∧ t.scanner = s.scanner ∧ t.ldr = s.ldr ∧ t.door = s.door ∧
        t.rlu = { s.rlu with sockets := t.rlu.sockets, rails := t.rlu.rails } ∧
        t.thu = { s.thu with heaters := t.thu.heaters } ∧
        (∀ i : Socket,
          t.rlu.sockets[i] = { s.rlu.sockets[i] with
            settle := if s.rlu.sockets[i].settle = some 0 then none else s.rlu.sockets[i].settle } ∧
          t.thu.heaters[i] = { s.thu.heaters[i] with
            nextStart := if s.thu.heaters[i].nextStart = some 0 then none else s.thu.heaters[i].nextStart
            onLeft := if s.thu.heaters[i].onLeft = some 0 then none else s.thu.heaters[i].onLeft }) ∧
        ∀ r : Rail, t.rlu.rails[r.ix] = { s.rlu.rails[r.ix] with
          timer := if s.rlu.rails[r.ix].timer = some 0 then none else s.rlu.rails[r.ix].timer }) ∧
    (s.ending = none → s.scanEnds = false → s.timersDue = [] → s.rcu.state = .loading →
      s.ldr.portClock = 32 * (4 + 16384) → step s = .next { s with pending := [.profileLoadEnd [0x40, 0x00]] }) ∧
    ∀ c : Instr, c ∈ s.timersDue ↔
      (∃ i : Socket, s.rlu.sockets[i].settle = some 0 ∧ c = .socketSettleEnd i) ∨
      (∃ r : Rail, s.rlu.rails[r.ix].timer = some 0 ∧
        ((s.railState r = .ramping ∨ s.railState r = .retargeting) ∧ c = .railSettleTimeout r ∨
          s.railState r = .falling ∧ c = .railFallTimeout r)) ∨
      (∃ i : Socket, s.thu.heaters[i].onLeft = some 0 ∧ c = .heaterOnEnd i) ∨
      (∃ i : Socket, s.thu.heaters[i].nextStart = some 0 ∧ c = .heaterPeriodStart i)

/-- With nothing due, a step on an empty queue is 25 ns (R4, R11, R72, R76, R83, R94, R102, R112, R175): every timer of the
rails, the sockets and the heaters loses a tick of it, the instant of an open check just passed is over (R91), the round timer loses 1 µs at the fortieth, and the slot start, the
half round, the expiry, the end of the own frame and the end of a pass join the queue as their rows, each at its own tick and
no other. That a step is 25 ns, and that the phase of the round timer's µs restarts with the timer, is the model's choice (log
entries 1 and 2). -/
def Obligations.PassingTimeCountsEveryTimer : Prop :=
  (∀ n : Nat, usTicks n = 40 * n ∧ msTicks n = 40000 * n) ∧
  ∀ s : State, s.pending = [] → s.ending = none → s.scanEnds = false → s.timersDue = [] →
    (s.rcu.state = .loading → s.ldr.portClock ≠ 32 * (4 + 16384)) →
    let counts : Prop := s.running = true ∧ s.biu.roundTimer ≠ 0
    let ends : Prop := counts ∧ s.biu.usPhase + 1 = 40
    ∃ t, step s = .next t ∧ t.rcu = s.rcu ∧ t.bdu = s.bdu ∧ t.acu = s.acu ∧ t.door = s.door ∧ t.ptu = s.dutTick.1.ptu ∧
      t.biu = { s.biu with roundTimer := t.biu.roundTimer, usPhase := t.biu.usPhase, cbmPulse := t.biu.cbmPulse
                           txClock := t.biu.txClock } ∧
      t.rlu = { s.rlu with sockets := t.rlu.sockets, rails := t.rlu.rails } ∧
      t.thu = { s.thu with heaters := t.thu.heaters } ∧
      (∀ i : Socket,
        t.rlu.sockets[i] = { s.rlu.sockets[i] with settle := s.rlu.sockets[i].settle.map (· - 1), settledNow := false } ∧
        t.thu.heaters[i] = { s.thu.heaters[i] with
          nextStart := s.thu.heaters[i].nextStart.map (· - 1), onLeft := s.thu.heaters[i].onLeft.map (· - 1) }) ∧
      (∀ r : Rail, t.rlu.rails[r.ix] = { s.rlu.rails[r.ix] with timer := s.rlu.rails[r.ix].timer.map (· - 1) }) ∧
      t.biu.cbmPulse = s.biu.cbmPulse - 1 ∧
      (ends → t.biu.roundTimer = s.biu.roundTimer - 1 ∧ t.biu.usPhase = 0) ∧
      (counts → ¬ends → s.biu.usPhase < 40 →
        t.biu.roundTimer = s.biu.roundTimer ∧ t.biu.usPhase = s.biu.usPhase + 1) ∧
      (¬counts → t.biu.roundTimer = s.biu.roundTimer ∧ t.biu.usPhase = s.biu.usPhase) ∧
      t.biu.txClock = (if s.sends then s.biu.txClock + 1 else s.biu.txClock) ∧
      t.scanner = (if s.running then s.scanner.advance else s.scanner) ∧
      t.ldr = { s.ldr with portClock := if s.ldr.portSelect then s.ldr.portClock + 1 else s.ldr.portClock } ∧
      ∀ c : Instr, c ∈ t.pending ↔
        (ends ∧ s.transmits = true ∧ c = .statusFrameBuild ∧
          s.prof.period * 1000 - (s.biu.roundTimer - 1) = s.slot.val * s.prof.period * 1000 / 32) ∨
        (ends ∧ s.biu.synced = true ∧ s.biu.roundTimer - 1 = s.prof.period * 1000 / 2 ∧ c = .halfRoundScan) ∨
        (ends ∧ s.biu.roundTimer = 1 ∧ c = .roundTimerExpiry) ∨
        (s.sends = true ∧ s.biu.txClock + 1 = s.frameTicks ∧ c = .statusFrameEnd) ∨
        (s.dutTick.2 = true ∧ c = .passEnd)

/-- The clock of the dies at a step of 25 ns (R112, R114 to R118): without a pass in flight nothing moves; while the engine
plays, the accumulator makes one addition of the clock word. Without overflow that is all. An overflow lowers DCLK where it is
high, the responses of a strobe clock being fed first, and raises it where it is low: a vector clock drives the vector's bits
in the pass's polarity and writes its compare flag, a drain clock keeps DRV and writes a clear flag, and with no clock left
the pass ends. The responses are the free value of log entry 3. -/
def Obligations.EmptyQueueStepRunsTheClock : Prop :=
  ∀ s : State, s.pending = [] → s.ending = none → s.scanEnds = false → s.timersDue = [] →
    (s.rcu.state = .loading → s.ldr.portClock ≠ 32 * (4 + 16384)) →
    let p := s.ptu
    let sum := p.acc.toNat + p.clockWord
    let acc := BitVec.ofNat 24 sum
    ∃ t, step s = .next t ∧
      ((p.engine = .stopped ∨ p.engine = .static) → t.ptu = p ∧ .passEnd ∉ t.pending) ∧
      ((p.engine = .playing ∨ p.engine = .stopping) →
        (sum < 2 ^ 24 → t.ptu = { p with acc := acc } ∧ .passEnd ∉ t.pending) ∧
        (2 ^ 24 ≤ sum → p.dclk = true → .passEnd ∉ t.pending ∧
          (p.strobe = false → t.ptu = { p with acc := acc, dclk := false }) ∧
          (p.strobe = true → t.ptu = { p with acc := acc, dclk := false, strobe := false, samples := p.samples + 1
                                              sigs := t.ptu.sigs } ∧
            ∀ i : Socket, t.ptu.sigs[i] =
              crcBit (crcBit p.sigs[i] ((Config.responseSample p.samples).getLsbD (2 * i.val)))
                ((Config.responseSample p.samples).getLsbD (2 * i.val + 1)))) ∧
        (2 ^ 24 ≤ sum → p.dclk = false →
          (∀ v : PatternVector, p.clocksLeft ≠ 0 → s.prof.vectors[p.vector]? = some v →
            .passEnd ∉ t.pending ∧ t.ptu = { p with
              acc := acc, dclk := true, drv := if p.inverted then ~~~v.drive else v.drive
              align := (p.align ++ [v.compare]).tail, strobe := (p.align ++ [v.compare]).headD false
              vector := t.ptu.vector, clocksLeft := t.ptu.clocksLeft } ∧
            (p.clocksLeft ≠ 1 → t.ptu.vector = p.vector ∧ t.ptu.clocksLeft = p.clocksLeft - 1) ∧
            (∀ k : Loop, p.clocksLeft = 1 → p.loop = some k →
              (p.vector < k.first + k.count - 1 → t.ptu.vector = p.vector + 1 ∧
                ∀ w : PatternVector, s.prof.vectors[p.vector + 1]? = some w → t.ptu.clocksLeft = w.clocks) ∧
              (k.first + k.count - 1 ≤ p.vector → t.ptu.vector = p.vector ∧ t.ptu.clocksLeft = 0))) ∧
          (p.clocksLeft = 0 → p.drainLeft ≠ 0 → .passEnd ∉ t.pending ∧ t.ptu = { p with
            acc := acc, dclk := true, align := (p.align ++ [false]).tail, strobe := (p.align ++ [false]).headD false
            drainLeft := p.drainLeft - 1 }) ∧
          (p.clocksLeft = 0 → p.drainLeft = 0 → .passEnd ∈ t.pending ∧ t.ptu = { p with acc := acc })))

/-- The bits of a byte on CBD, and the profile port's lines (R1, R2, R3, R11, R173, R175): ten levels to a byte, a low start
bit, the data bits most significant first and a high stop bit, a bit lasting 1 µs or half of it by the rate strap; a low stop
bit is a framing error; the own frame's levels from 20 µs after its build, and CBD released otherwise. The port's clock idles
low and runs at 10 MHz while the select is asserted, its output changes as the clock falls, and a byte is read most
significant bit first, as all ones where the memory gives none. That the clock and the output's first bit start with the
select's assertion, that the clock is low and then high for 50 ns each, and the output's level once the request is out and
while the select is released are the model's choice (log entry 19). -/
def Obligations.LinesCarryTheBits : Prop :=
  (∀ b : Byte, (wireByte b).length = 10 ∧ (wireByte b)[0]? = some false ∧ (wireByte b)[9]? = some true ∧
    (∀ k, k < 8 → (wireByte b)[k + 1]? = some (b.getLsbD (7 - k))) ∧ readWireByte (wireByte b) = some b ∧
    clockIn b = b) ∧
  (∀ levels : List Bool, levels[9]? = some false → readWireByte levels = none) ∧
  (∀ s : State, bitTicks s.rate = (if s.ldr.straps.map Straps.rate = some true then 20 else 40) ∧
    s.frameTicks = 800 + 10 * bitTicks s.rate * s.biu.txFrame.length ∧
    (s.biu.tx ≠ .sending → s.biu.tx ≠ .carriedOver → s.drivesCbd = false ∧ s.cbdLevel = true) ∧
    (s.biu.tx = .sending ∨ s.biu.tx = .carriedOver → s.drivesCbd = true ∧
      (s.biu.txClock < 800 → s.cbdLevel = true) ∧
      ∀ k j r, k < s.biu.txFrame.length → j < 10 → r < bitTicks s.rate →
        s.biu.txClock = 800 + (10 * k + j) * bitTicks s.rate + r →
        s.cbdLevel = (wireByte (s.biu.txFrame.getD k 0)).getD j true)) ∧
  (∀ s : State, s.portSelectLine = s.ldr.portSelect ∧
    (s.ldr.portSelect = false → s.portClockLine = false ∧ s.portDataLine = false) ∧
    (s.ldr.portSelect = true → s.portClockLine = decide (2 ≤ s.ldr.portClock % 4) ∧
      ∀ k j r, k < s.ldr.portSent.length → j < 8 → r < 4 → s.ldr.portClock = 4 * (8 * k + j) + r →
        s.portDataLine = (s.ldr.portSent.getD k 0).getLsbD (7 - j))) ∧
  (∀ (memory : List Byte) (n i : Nat), i < n → (readMemory memory n)[i]? = some (memory.getD i 0xFF))

/-- The scanner (R80, R81): a frame of 50 slots of 20 µs, the fast list in its fixed order in slots 0 to 20, then the
channels of a scan in progress in ascending order, one to a slot. That a reading of an input whose conversion does not end at
this instant, and a scan completion before channel 15 is converted, change nothing, and that a temperature slot starting at the
instant of the request converts the scan's first channel, is the model's choice (log entries 4 and 22). -/
def Obligations.ScannerConvertsInOrder : Prop :=
  (∀ c : Scanner,
    (∀ i : Socket, c.slotInput i.val = some (.current i)) ∧ c.slotInput 16 = some (.rail .a) ∧
    c.slotInput 17 = some (.rail .b) ∧ c.slotInput 18 = some (.rail .c) ∧ c.slotInput 19 = some .bulk ∧
    c.slotInput 20 = some .board ∧
    (∀ slot, 21 ≤ slot →
      (∀ i : Socket, c.scan ≠ none → c.channel = i.val → c.slotInput slot = some (.temperature i)) ∧
      (c.scan = none ∨ 16 ≤ c.channel → c.slotInput slot = none)) ∧
    (∀ slot, slot < 50 → c.place = 800 * slot →
      c.advance = { c with place := c.place + 1, converting := c.slotInput slot }) ∧
    (c.place % 800 ≠ 0 → c.place + 1 < 40000 → c.advance = { c with place := c.place + 1 }) ∧
    (c.place = 39999 → c.advance = { c with place := 0 })) ∧
  (∀ s : State,
    (∀ input, s.ending = some input ↔
      s.running = true ∧ s.scanner.place % 800 = 0 ∧ s.scanner.converting = some input) ∧
    (∀ i v, s.ending ≠ some (.current i) → exec (.socketCurrentReading i v) s = .next s) ∧
    (∀ r v, s.ending ≠ some (.rail r) → exec (.railReading r v) s = .next s) ∧
    (∀ v, s.ending ≠ some .bulk → exec (.bulkReading v) s = .next s) ∧
    (∀ v, s.ending ≠ some .board → exec (.boardCurrentReading v) s = .next s) ∧
    (∀ i v, s.ending ≠ some (.temperature i) → exec (.temperatureReading i v) s = .next s) ∧
    (s.scanner.scan = none ∨ s.scanner.channel ≠ 16 → exec .scanCompletion s = .next s))

/-! ### Reset and load -/

/-- The values after pin reset that the rules state (R7, R8, R14, R17, R21, R26, R54, R93, R110, R111, R132, R149, R163). That
the command part NONE is the code 0 is R183's. -/
def Obligations.ResetHoldsTheStatedValues : Prop :=
  let s := State.reset
  s.rcu.state = .reset ∧ s.rcu.sub = none ∧ s.rcu.endCause = none ∧ (∀ p, s.rcu.entry p = none) ∧
  s.rcu.planCode = 0 ∧ s.rcu.phase = 0 ∧ s.rcu.startPending = false ∧ s.rcu.advance = none ∧
  s.rcu.cmdHold = false ∧ s.rcu.lateMark = none ∧ s.rcu.intCount = 0 ∧
  s.biu.roundNumber = 0 ∧ s.biu.slip = 0 ∧ s.biu.driftWarn = false ∧ s.biu.driftSevere = false ∧
  s.biu.mismatchCount = 0 ∧ s.biu.unheardStreak = 0 ∧ s.biu.sinceUnheard = 0 ∧
  (∀ k : Station,
    let e := s.biu.peers[k]
    e.presence = .absent ∧ e.missed = 0 ∧ e.rackDiffers = false ∧ e.report.stateCode = 0 ∧ e.report.subCode = 0 ∧
    e.report.planCode = 0 ∧ e.report.rackCode = 0 ∧ e.report.phase = 0 ∧ e.report.vote = false ∧ e.report.held = 0 ∧
    e.report.asked = 0 ∧ e.report.hold = false ∧ e.report.heard = 0 ∧ e.report.round = 0) ∧
  s.bdu.ownHeld = 0 ∧ s.bdu.queue = [] ∧ s.bdu.sentHeld = 0 ∧ s.bdu.sentAsked = 0 ∧
  (∀ r : Rail, s.railState r = .off ∧ s.rlu.rails[r.ix].level = 0 ∧ s.rlu.rails[r.ix].streak = 0) ∧
  (∀ i : Socket, s.rlu.sockets[i].closed = false ∧ s.rlu.sockets[i].allowance = 0 ∧
    s.rlu.sockets[i].threshold = 0 ∧ s.rlu.sockets[i].settle = none ∧ s.rlu.sockets[i].openCheck = none ∧
    s.rlu.sockets[i].retryWait = none ∧ s.rlu.sockets[i].debounce = 0 ∧ s.rlu.sockets[i].openStreak = 0) ∧
  s.rlu.deferred = false ∧ s.rlu.bulkLow = false ∧ s.rlu.lowStreak = 0 ∧ s.rlu.highStreak = 0 ∧ s.rlu.boardStreak = 0 ∧
  (∀ i : Socket, s.thu.heaters[i].lastTemp = 0 ∧ s.thu.heaters[i].band = .unknown ∧
    s.thu.heaters[i].tripStreak = 0 ∧ s.thu.heaters[i].sensorStreak = 0 ∧ s.thu.heaters[i].onTime = 0 ∧
    s.thu.heaters[i].inForce = 0 ∧ s.thu.heaters[i].phase = .stopped) ∧
  s.thu.anchor = none ∧ s.thu.tokens = 0 ∧ s.thu.releasePending = false ∧ s.thu.waitQueue = [] ∧
  s.ptu.engine = .stopped ∧ s.ptu.passIndex = 0 ∧ s.ptu.reentryLeft = 0 ∧ s.ptu.align = [] ∧
  (∀ i : Socket, s.ptu.sigs[i] = 0xFFFF ∧ s.ptu.members[i] = false) ∧ s.ptu.finishPending = false ∧
  (∀ i : Socket, s.acu.records[i] =
    { state := .off, source := none, failure := none, retries := 0, streak := 0, soft := false, passCount := 0
      mismatchCount := 0, credit := [0], exposure := 0, lastCurrent := 0, lastTemp := 0, band := .unknown, onTime := 0 }) ∧
  s.acu.history = [] ∧ s.acu.overflow = false ∧
  s.acu.shown = false ∧ s.acu.reportCode = 0 ∧ s.acu.reportResult = .none ∧ s.acu.readDue = none ∧ s.ldr.straps = none ∧ s.ldr.profile = none

/-- PIN_RESET gives every block its values after pin reset, and every line stands as R173 gives. The queue, the DOOR
line and the counts of response samples and conversions are kept: the model's choice (log entries 3, 14, 20 and 22). -/
def Obligations.PinResetMakesEveryLineInactive : Prop :=
  ∀ s : State,
    exec .pinReset s =
      .next { State.reset with door := s.door, pending := s.pending, ptu := { Ptu.initial with samples := s.ptu.samples }
                               scanner := { Scanner.initial with conversions := s.scanner.conversions } } ∧
    ∀ t, exec .pinReset s = .next t →
      t.drivesCbd = false ∧ t.cbdLevel = true ∧ t.drivesCbm = false ∧
      (∀ r, t.railEnable r = false ∧ t.railLevelLine r = 0) ∧
      (∀ i, t.switchLine i = false ∧ t.heaterLine i = false) ∧ t.driveLines = 0 ∧ t.clockLine = false ∧
      t.faultLine = false ∧ t.failLine = false ∧ t.portSelectLine = false ∧ t.portClockLine = false

/-- RESET_RELEASE latches the straps, whatever the slot reads, enters LOADING and starts the load with the port's clock at its
beginning; the latched values then hold under every step until the next PIN_RESET (R174, and the first sentence of R175). -/
def Obligations.StrapsAreLatchedAndKept : Prop :=
  (∀ (s : State) (slot : Slot) (rate : Bool), s.rcu.state = .reset →
    exec (.resetRelease slot rate) s =
      .next { s with rcu := { s.rcu with state := .loading }
                     ldr := { s.ldr with straps := some { slot := slot, rate := rate }, portSelect := true
                                         portSent := [0x03, 0, 0, 0], portClock := 0 } }) ∧
  (∀ s t : State, s.rcu.state ≠ .reset → (∀ c ∈ s.pending.head?, c ≠ .pinReset) → step s = .next t →
    t.ldr.straps = s.ldr.straps ∧ (s.rcu.state ≠ .loading → s.sameLoad t))

/-- A load ends at the clock that ends the last byte read: the four bytes of the request, then the five bytes of a header whose
length is below 80 or above 16 384, otherwise exactly as many bytes as the length gives; the select is then released and the
clock stops (R175). That this instant lies 32 ticks a byte after the select's assertion, for the clock starts with it, and that
at any other instant, and outside LOADING, the row changes nothing, is the model's choice (log entry 19). A load
that ends with an error enters LOADFAIL with FAULT asserted and no parameter handed on (R180). A header whose
length is below 80 or above 16 384 is such an error (R175), and so is one above 12 440, which no counts in range give (R187). An accepted profile has a CRC that checks and the length that its
counts give, every parameter of R176 and R177 lies in its range, and the values agree with one another and with the rate as
R178 asks: the allowances and the transition span against the budget, the order of the levels, the tolerance and the open
floor, the loops against the vectors. Its parameters, loops and vectors are the ones the image spells at the offsets of R187,
the image is as many bytes of the memory as the header's length says, and no vector's flag byte has any of bits 7 to 1 set
(R188). An image in which all of this holds is accepted, with just that profile, so any other is a profile error. -/
def Obligations.BadProfileEndsInLoadfail : Prop :=
  (∀ (s : State) (memory : List Byte),
    let length := u16At (readMemory memory 5) 0
    let bytes := if length < 80 ∨ 16384 < length then 5 else length
    (s.rcu.state = .loading → s.ldr.portClock = 32 * (4 + bytes) →
      (judgeProfile s.rate memory = none →
        exec (.profileLoadEnd memory) s =
          .next { s with rcu := { s.rcu with state := .loadFail }, ldr := { s.ldr with portSelect := false } }) ∧
      ∃ t, exec (.profileLoadEnd memory) s = .next t ∧ t.rcu.state ≠ .loading ∧ t.portSelectLine = false ∧
        t.portClockLine = false ∧ (judgeProfile s.rate memory = none → t.faultLine = true)) ∧
    (s.rcu.state ≠ .loading ∨ s.ldr.portClock ≠ 32 * (4 + bytes) → exec (.profileLoadEnd memory) s = .next s)) ∧
  (∀ (rate : Bool) (memory : List Byte),
    u16At (readMemory memory 5) 0 < 80 ∨ 12440 < u16At (readMemory memory 5) 0 → judgeProfile rate memory = none) ∧
  (∀ (rate : Bool) (memory image : List Byte) (p : Profile),
    let length := u16At (readMemory memory 5) 0
    judgeProfile rate memory = some (p, image) ↔
    80 ≤ length ∧ length ≤ 16384 ∧ image = readMemory memory length ∧ p.spelledBy image ∧
    (∀ k, k < p.vectors.length → byteAt image (78 + 9 * p.loops.length + 3 * k + 1) < 2) ∧
    image.length = u16At image 0 ∧ image.length = 80 + 9 * p.loops.length + 3 * p.vectors.length ∧
    p.loops.length ≤ 8 ∧ p.vectors.length ≤ 4096 ∧
    (crc (image.take (image.length - 2))).toNat = u16At image (image.length - 2) ∧
    10 ≤ p.budget ∧ p.budget ≤ 60000 ∧ 13 ≤ p.period ∧ p.period ≤ 100 ∧ (rate = false → 24 ≤ p.period) ∧
    2 ≤ p.lostThreshold ∧ p.lostThreshold ≤ 8 ∧ 2 ≤ p.joinWait ∧ p.joinWait ≤ 16 ∧
    (∀ (r : Fin 3) (l : Fin 4), 100 ≤ p.levels[r][l] ∧ p.levels[r][l] ≤ 15000 ∧ p.tolerance < p.levels[r][l]) ∧
    1 ≤ p.tolerance ∧ p.tolerance ≤ 1000 ∧
    (∀ r : Fin 3, 1 ≤ p.railSettle[r] ∧ p.railSettle[r] ≤ 255) ∧ 1 ≤ p.socketSettle ∧ p.socketSettle ≤ 100 ∧
    (∀ l : Fin 4, 1 ≤ p.base[l] ∧ p.base[l] ≤ 60000 ∧ 1 ≤ p.allowance[l] ∧ p.allowance[l] ≤ 30000) ∧
    p.openFloor ≤ 30000 ∧ 1 ≤ p.tripDebounce ∧ p.tripDebounce ≤ 15 ∧ p.retryLimit ≤ 3 ∧
    1 ≤ p.retryWait ∧ p.retryWait ≤ 255 ∧ p.interruptionLimit ≤ 7 ∧ 1 ≤ p.recoveryWait ∧ p.recoveryWait ≤ 255 ∧
    1 ≤ p.bulkThreshold ∧ p.bulkThreshold ≤ 65535 ∧ 1 ≤ p.nominal ∧ p.nominal ≤ 60000 ∧
    10 ≤ p.heaterPeriod ∧ p.heaterPeriod ≤ 2000 ∧ 1 ≤ p.heaterStep ∧ p.heaterStep ≤ p.heaterPeriod ∧
    1 ≤ p.maxTokens ∧ p.maxTokens ≤ 16 ∧ 1 ≤ p.tripMargin ∧ p.tripMargin ≤ 50 ∧
    1 ≤ p.functionalThreshold ∧ p.functionalThreshold ≤ 15 ∧ p.reentry ≤ 3 ∧
    (∀ k ∈ p.loops, 1 ≤ k.count ∧ k.latency ≤ 7 ∧ k.first + k.count ≤ p.vectors.length) ∧
    (∀ v ∈ p.vectors, 1 ≤ v.clocks ∧ v.clocks ≤ 256) ∧
    (∀ l : Fin 4, p.base[l] ≤ p.budget ∧ p.allowance[l] ≤ p.budget) ∧ p.nominal ≤ p.budget ∧
    (p.base[3] - p.base[0]) + (p.allowance[3] - p.allowance[0]) * enabledCount p.enableMask ≤ p.budget ∧
    (∀ l m : Fin 4, l ≤ m → p.base[l] ≤ p.base[m] ∧ p.allowance[l] ≤ p.allowance[m]) ∧
    p.openFloor < p.allowance[0])

/-- A good load, ending with the last byte of its image (R175), hands the parameters on, excludes the sockets outside the enable mask, drives the idle value and enters
LISTEN, or MUTED with cause STRAP for a slot of 0 or 1 (R132, R179, R180). -/
def Obligations.GoodLoadEntersListenOrMuted : Prop :=
  ∀ (s : State) (memory image : List Byte) (straps : Straps) (p : Profile),
    s.rcu.state = .loading → s.ldr.straps = some straps → judgeProfile straps.rate memory = some (p, image) →
    s.ldr.portClock = 32 * (4 + image.length) →
    ∃ t, exec (.profileLoadEnd memory) s = .next t ∧
      t.ldr.profile = some p ∧ t.ldr.rackCode = crc ((image.drop 5).take 5) ∧ t.ldr.straps = s.ldr.straps ∧
      t.ldr.portSelect = false ∧ t.ptu.drv = p.idleDrive ∧ t.bdu = s.bdu ∧ t.rlu = s.rlu ∧ t.pending = s.pending ∧
      (∀ i : Socket, t.acu.records[i] =
        if p.enableMask.getLsbD i.val then s.acu.records[i]
        else { s.acu.records[i] with state := .excluded, source := some .profile }) ∧
      (2 ≤ straps.slot.val → t.rcu.state = .listen ∧ t.biu.synced = false ∧ t.biu.roundTimer = 2 * p.period * 1000 ∧
        ∀ k : Station, t.biu.peers[k] = Peer.blank) ∧
      (straps.slot.val < 2 → t.rcu.state = .muted ∧ t.rcu.muteCause = some .strap ∧ t.faultLine = true)

/-! ### The round -/

/-- Edges and expiries that begin no round, and those that synchronise. An edge with more than half a round remaining is a
runt mark and changes nothing (R5); a timer that does not stand at 0 does not expire (R4); in RESET, LOADING, LOADFAIL and
MUTED the station neither accepts nor drives marks (R4). The sync mark, by an edge or by the station's own expiry (R6, R9,
R20, R23): the timer is reloaded, the slip is 0 with no drift flag, the round number is the own plus 1, the heard mask is
empty and the join count 0; the scan of the mark is requested, and one in progress has it held (R81, R94). -/
def Obligations.EdgesExpiriesAndTheSyncMark : Prop :=
  ∀ s : State,
    (s.biu.synced = true → s.prof.period * 1000 / 2 < s.biu.roundTimer → exec .mark s = .next s) ∧
    (s.biu.roundTimer ≠ 0 → exec .roundTimerExpiry s = .next s) ∧
    ((s.rcu.state = .reset ∨ s.rcu.state = .loading ∨ s.rcu.state = .loadFail ∨ s.rcu.state = .muted) →
      exec .mark s = .next s ∧ exec .roundTimerExpiry s = .next s) ∧
    (s.running = true → s.biu.synced = false →
      ∀ c ∈ [Instr.mark, Instr.roundTimerExpiry], (c = .roundTimerExpiry → s.biu.roundTimer = 0) →
        ∃ t, exec c s = .next t ∧
          t.biu.synced = true ∧ t.biu.roundTimer = s.prof.period * 1000 ∧ t.biu.slip = 0 ∧ t.biu.driftWarn = false ∧
          t.biu.driftSevere = false ∧ t.biu.roundNumber = s.biu.roundNumber + 1 ∧ t.biu.heardMask = 0 ∧
          t.biu.joinCount = 0 ∧ t.biu.received = 0 ∧ t.biu.peers = s.biu.peers ∧ t.rcu.state = s.rcu.state ∧
          t.acu.records = s.acu.records ∧ t.acu.history = s.acu.history ∧ t.bdu = s.bdu ∧ t.rlu = s.rlu ∧
          t.thu = { s.thu with markScanWarm := false } ∧
          (s.scanner.scan = none → t.scanner = { s.scanner with scan := some .mark, channel := 0 }) ∧
          (s.scanner.scan ≠ none → t.scanner = { s.scanner with held := some .mark }) ∧
          t.biu.cbmPulse = (if c = .roundTimerExpiry then usTicks 20 else s.biu.cbmPulse))

/-- A later mark reloads the timer, captures the slip and its flags, takes the heard mask from the round just ended and
begins the round with an empty set of received slots and no command report (R5, R7, R12, R20, R163). Unless it mutes the
station it requests a scan: with none in progress the mark's scan begins with channel 0, with one in progress the request is
held, and what the last mark's scan found is cleared (R81, R94). A READ reply still due is lost, its round's frame not having been
sent, and only a mark that enters MUTED holds it as it stood (R146, R172; log entry 37). That a request merging with a held one is the mark's is the
model's choice (log entry 17). An expiry is the station's own mark, with slip 0 and its pulse on CBM (R4). -/
def Obligations.MarkCapturesSlipAndBeginsTheRound : Prop :=
  ∀ s : State, s.running = true → s.biu.synced = true →
    let asked := fun t : State => t.thu.markScanWarm = false ∧ (t.rcu.state ≠ .muted →
      (s.scanner.scan = none → t.scanner = { s.scanner with scan := some .mark, channel := 0 }) ∧
      (s.scanner.scan ≠ none → t.scanner = { s.scanner with held := some .mark })) ∧
      t.acu.readDue = if t.rcu.state = .muted then s.acu.readDue else none
    (s.biu.roundTimer ≤ s.prof.period * 1000 / 2 →
      ∃ t, exec .mark s = .next t ∧ t.biu.slip = s.biu.roundTimer ∧
        t.biu.driftWarn = decide (s.prof.period * 1000 < s.biu.roundTimer * 256) ∧
        t.biu.driftSevere = decide (s.prof.period * 1000 < s.biu.roundTimer * 64) ∧
        t.biu.roundTimer = s.prof.period * 1000 ∧ t.biu.heardMask = s.biu.received ∧ t.biu.received = 0 ∧
        t.biu.roundNumber = s.nextRound ∧ t.acu.reportCode = 0 ∧ t.acu.reportResult = .none ∧ asked t ∧
        t.ldr = s.ldr ∧ t.door = s.door ∧ t.pending = s.pending) ∧
    (s.biu.roundTimer = 0 →
      ∃ t, exec .roundTimerExpiry s = .next t ∧ t.biu.slip = 0 ∧ t.biu.driftWarn = false ∧ t.biu.driftSevere = false ∧
        t.biu.roundTimer = s.prof.period * 1000 ∧ t.biu.heardMask = s.biu.received ∧ t.biu.received = 0 ∧
        t.biu.roundNumber = s.nextRound ∧ (t.rcu.state ≠ .muted → t.biu.cbmPulse = usTicks 20) ∧ asked t ∧
        t.ldr = s.ldr ∧ t.door = s.door ∧ t.pending = s.pending)

/-- What a mark makes of the frames heard: the round number becomes one more than the highest of the own and the peers'
numbers (R8, R10), and in LISTEN one more than the highest of any frame received, or than the own with none (R9); every peer
entry's presence and missed streak follow the table of R18, and a frame received replaces what its entry reports, with the
rack code compared (R17, R22; a held that the mark predicts apart, R53). A missed slot leaves every reported field, and whether
the rack code differs, as it was, but for the held and asked that the forget rule clears (R17, R18). -/
def Obligations.MarkFollowsTheFramesHeard : Prop :=
  ∀ s : State, s.running = true → s.biu.synced = true → s.biu.roundTimer ≤ s.prof.period * 1000 / 2 →
    ∃ t, exec .mark s = .next t ∧
      (s.rcu.state ≠ .listen → ∃ top : Word, t.biu.roundNumber = top + 1 ∧
        s.biu.roundNumber.toNat ≤ top.toNat ∧ (∀ p ∈ s.peerReports, p.2.round.toNat ≤ top.toNat) ∧
        (top = s.biu.roundNumber ∨ ∃ p ∈ s.peerReports, p.2.round = top)) ∧
      (s.rcu.state = .listen →
        let heard := s.biu.rxRounds ++ s.allReports.map StatusReport.round
        (heard = [] → t.biu.roundNumber = s.biu.roundNumber + 1) ∧
        (heard ≠ [] → ∃ top ∈ heard, t.biu.roundNumber = top + 1 ∧ ∀ r ∈ heard, r.toNat ≤ top.toNat)) ∧
      ∀ k : Station,
        let e := s.biu.peers[k]
        let u := t.biu.peers[k]
        (s.heardFrom k = true → u.presence = .live ∧ u.missed = 0 ∧
          ∀ r, s.biu.rxStatus[k] = some r → u.rackDiffers = (r.rackCode != s.ldr.rackCode) ∧
            u.report = { r with held := u.report.held } ∧
            (u.report.held = r.held ∨ u.report.held = r.held + r.asked)) ∧
        (s.heardFrom k = false → u.rackDiffers = e.rackDiffers ∧
          (e.presence ≠ .lost ∨ e.missed + 1 < 2 * s.prof.lostThreshold → u.report = e.report) ∧
          (e.presence = .absent → u.presence = .absent ∧ u.missed = 0) ∧
          (e.presence = .live → u.presence = .silent ∧ u.missed = 1) ∧
          (e.presence = .silent → u.missed = e.missed + 1 ∧
            u.presence = if e.missed + 1 < s.prof.lostThreshold then .silent else .lost) ∧
          (e.presence = .lost → e.missed + 1 < 2 * s.prof.lostThreshold →
            u.presence = .lost ∧ u.missed = e.missed + 1) ∧
          (e.presence = .lost → 2 * s.prof.lostThreshold ≤ e.missed + 1 →
            u.presence = .absent ∧ u.missed = 0 ∧ u.report = { e.report with held := 0, asked := 0 }))

/-- A mark runs the work of every block, in the model's order (log entries 6, 7 and 13): the round just ended is judged
(R138, R140), the BIU does its own work (R5 to R21), and a cause to mute (R16, R22, R23) ends the rest. That so much comes
before the muting, with the new round begun and no grant or join after it, is the model's reading (log entry 28), and that
this cause is judged before the slot clash its choice (log entry 38). Otherwise the budget
(R61 to R63), the retry waits (R89), the join wait (R23), run control under the mark's rack hold (R30 to R46), the heaters
(R99, R101, R105), the gates (R138 to R140) and the new round follow, then the UNHEARD signal and the slot clash (R15, R21), and unless the clash
mutes the station a READ reply still due is lost (R146, R172; log entry 37).
An expiry of the timer does the same with its own pulse (R4). What the waits among them do is WaitsEndAsTheirRules. What run
control and the budget are told: rack hold is the own
hold flag or any received one (R38), and the facts of R63. -/
def Obligations.MarkRunsItsWork : Prop :=
  ∀ s : State,
    (s.rackHold = true ↔ s.holdFlag = true ∨ ∃ r ∈ s.allReports, r.hold = true) ∧
    (s.markFacts.round = s.biu.roundNumber ∧
      (s.markFacts.disagreeing = true ↔ ∃ p ∈ s.peerReports, p.2.round ≠ s.biu.roundNumber) ∧
      (s.markFacts.missedPeer = true ↔ ∃ k : Station, s.isOwn k = false ∧ s.heardFrom k = false ∧
        (s.biu.peers[k].presence = .live ∨ s.biu.peers[k].presence = .silent))) ∧
    (s.running = true → s.biu.synced = true →
      (s.biu.roundTimer ≤ s.prof.period * 1000 / 2 →
        let closed := (s.judgeRound s.rackHold (decide (s.prof.period * 1000 < s.biu.roundTimer * 64))).biuMark
          s.biu.roundTimer
        (∀ cause, s.muteAtMark = some cause → exec .mark s = .next (closed.beginRound.enterMuted cause)) ∧
        (s.muteAtMark = none →
          let paid := ((closed.budgetMark s.markFacts).retryMarks).joinMark
          let run := paid.runMark s.rackHold paid.clashCount
          let begun := ((run.heatMark paid.rcu.sub).openGates).beginRound
          let told := if s.unheardSignal then begun.interrupt .unheard else begun
          let ended := if told.clashCount then told.clash else told
          exec .mark s = .next (if ended.rcu.state = .muted then ended
            else { ended with acu := { ended.acu with readDue := none } }))) ∧
      (s.biu.roundTimer = 0 →
        exec .roundTimerExpiry s = exec .mark { s with biu := { s.biu with cbmPulse := usTicks 20 } }))

/-- What mutes the station at a mark, and what it does on entry to MUTED. In LISTEN a frame in the own slot, or else a
different rack code; in IDLE a different rack code from a lower slot (R16, R22, R23). The unheard signal, given as the streak
reaches L, and the counts behind it (R14, R21). The slot clash at 2L mismatches, by the table of R15. On entry the lines are
released, FAULT is asserted, and the peer table, the records, the history and a reply due are held (R24, R146). That a frame still being sent
or carried over at a mark leaves the mismatch count, and that the release of CBD cuts a frame in progress, is the model's
choice (log entry 11). -/
def Obligations.StationIsMutedAtItsConditions : Prop :=
  ∀ s : State,
    (s.rcu.state = .listen →
      ((∃ k : Station, s.isOwn k = true ∧ s.heardFrom k = true) → s.muteAtMark = some .clash) ∧
      ((∀ k : Station, s.isOwn k = true → s.heardFrom k = false) →
        ((∃ r ∈ s.allReports, r.rackCode ≠ s.ldr.rackCode) → s.muteAtMark = some .rack) ∧
        ((∀ r ∈ s.allReports, r.rackCode = s.ldr.rackCode) → s.muteAtMark = none))) ∧
    (s.rcu.state = .idle →
      ((∃ p ∈ s.peerReports, stationSlot p.1 < s.slot.val ∧ p.2.rackCode ≠ s.ldr.rackCode) →
        s.muteAtMark = some .rack) ∧
      ((∀ p ∈ s.peerReports, stationSlot p.1 < s.slot.val → p.2.rackCode = s.ldr.rackCode) → s.muteAtMark = none)) ∧
    (s.rcu.state ≠ .listen → s.rcu.state ≠ .idle → s.muteAtMark = none) ∧
    (s.rcu.state ≠ .listen → ∀ slip : Nat,
      let t := s.biuMark slip
      let heard : Prop := s.peerReports ≠ [] ∧ ∀ p ∈ s.peerReports, p.2.heard.getLsbD s.slot.val = true
      let unheard : Prop := ∃ p ∈ s.peerReports, p.2.heard.getLsbD s.slot.val = false
      t.biu.mismatchCount = (match s.biu.tx with
        | .stoppedByReadback => s.biu.mismatchCount + 1
        | .sentWhole => 0
        | .notSent | .carriedOver | .sending => s.biu.mismatchCount) ∧
      (heard → t.biu.unheardStreak = 0) ∧ (unheard → t.biu.unheardStreak = s.biu.unheardStreak + 1) ∧
      (s.peerReports = [] → t.biu.unheardStreak = s.biu.unheardStreak) ∧
      (unheard → t.biu.sinceUnheard = 0) ∧ (¬unheard → t.biu.sinceUnheard = min 255 (s.biu.sinceUnheard + 1)) ∧
      (s.unheardSignal = true ↔ s.transmits = true ∧ unheard ∧ s.biu.unheardStreak + 1 = s.prof.lostThreshold)) ∧
    (s.clashCount = true ↔ s.transmits = true ∧ 2 * s.prof.lostThreshold ≤ s.biu.mismatchCount) ∧
    ((s.rcu.state = .idle ∨ s.rcu.state = .done) → s.clash = s.enterMuted .clash) ∧
    (s.rcu.state = .active →
      (s.railsOff = true → s.bdu.ownHeld = 0 → s.clash = s.enterMuted .clash) ∧
      (s.railsOff = false ∨ s.bdu.ownHeld ≠ 0 → s.clash = (s.interrupt .unheard).enterMuted .clash)) ∧
    (s.rcu.state = .windDown → s.clash = (s.interrupt .unheard).enterMuted .clash) ∧
    (∀ cause, let t := s.enterMuted cause
      t.rcu.state = .muted ∧ t.rcu.muteCause = some cause ∧ t.rcu.sub = none ∧ t.rcu.startPending = false ∧
      t.faultLine = true ∧ t.drivesCbd = false ∧ t.drivesCbm = false ∧
      t.clockLine = (s.clockLine && decide (s.ptu.engine = .stopped)) ∧
      t.biu.peers = s.biu.peers ∧ t.biu.roundNumber = s.biu.roundNumber ∧ t.acu.records = s.acu.records ∧
      t.acu.history = s.acu.history ∧ t.acu.readDue = s.acu.readDue ∧ t.bdu = s.bdu ∧ t.rlu = s.rlu ∧
      t.thu.tokens = s.thu.tokens)

/-- A mark gives a socket one round of exposure when the round was powered for it, and in ACTIVE one round of credit at
the phase index when the gates stood open, with no rack hold and no severe slip (R138, R140); at the maximum it gives
neither (R141). -/
def Obligations.MarkJudgesTheRoundOfEachSocket : Prop :=
  ∀ s : State, s.running = true → s.biu.synced = true → s.biu.roundTimer ≤ s.prof.period * 1000 / 2 →
    ∃ t, exec .mark s = .next t ∧ ∀ i : Socket,
      let r := s.acu.records[i]
      let powered : Bool := s.acu.powered[i] && decide (r.exposure < 4294967295)
      let earned : Bool := powered && s.acu.socketGate[i] && s.acu.stationGate && !s.rackHold &&
        !decide (s.prof.period * 1000 < s.biu.roundTimer * 64)
      t.acu.records[i].exposure = r.exposure + (if powered then 1 else 0) ∧
      (s.rcu.state = .active → s.rcu.phase < r.credit.length →
        t.acu.records[i].creditAt s.rcu.phase = r.creditAt s.rcu.phase + (if earned then 1 else 0))

/-- The waits that end at a mark. At each mark of RECOVERING the wait's count rises by 1, and at the first that meets R46's
conditions the end is taken; at each mark of LISTEN the join count rises by 1, and at the J-th IDLE is entered (R23); in the
sub-states in which a retry wait runs, each wait of more than one mark loses one, and a RETRY socket's last mark closes its
switch (R89). Then the same three ends taken as rows by themselves, which is the model's choice (log entry 5). The end of RECOVERING
places the RAILBASE need and the SOCKET needs of the PARKED and OFF sockets in ascending order, enters BRINGUP, or HELD with
BRINGUP remembered under rack hold, and sets a schedule anchor (R46, R101). The end of the join wait, with no cause to mute,
enters IDLE and clears three counts (R23). The end of a retry wait closes the switch with no grant: POWERING, with the
allowance and threshold at the level in force for sockets and the settle timer started (R83, R89). -/
def Obligations.WaitsEndAsTheirRules : Prop :=
  ∀ s : State,
    let closes := { closed := true, allowance := s.prof.allowance[s.levelInForce]
                    threshold := s.prof.allowance[s.levelInForce], debounce := 0, openStreak := 0
                    settle := some (msTicks s.prof.socketSettle), openCheck := none, retryWait := none
                    settledNow := false : SocketPower }
    let retries : Prop := s.rcu.state = .active ∧ (s.rcu.sub = some .bringUp ∨ s.rcu.sub = some .running ∨
      s.rcu.sub = some .transition ∨ s.rcu.sub = some .held)
    (s.rcu.state = .active → s.rcu.sub = some .recovering → ∀ hold clash : Bool,
      let t := s.runMark hold clash
      let due : Prop := s.prof.recoveryWait ≤ s.rcu.recoverMarks + 1 ∧
        (s.rcu.recoverBulk = true → s.rlu.bulkLow = false) ∧
        (s.rcu.recoverUnheard = true → s.prof.lostThreshold ≤ s.biu.sinceUnheard)
      (¬due → t = { s with rcu := { s.rcu with recoverMarks := s.rcu.recoverMarks + 1 } }) ∧
      (due → s.bdu.queue = [] → t = { s with
        rcu := { s.rcu with recoverMarks := s.rcu.recoverMarks + 1
                            sub := some (if hold then .held else .bringUp)
                            remembered := if hold then some .bringUp else none }
        bdu := { s.bdu with queue := .railBase ::
          (allSockets.filter (fun i => s.socketState i == .parked || s.socketState i == .off)).map Need.socket } })) ∧
    (s.rcu.state ≠ .listen → s.joinMark = s) ∧
    (s.rcu.state = .listen → s.biu.synced = true →
      (s.biu.joinCount + 1 < s.prof.joinWait →
        s.joinMark = { s with biu := { s.biu with joinCount := s.biu.joinCount + 1 } }) ∧
      (s.prof.joinWait ≤ s.biu.joinCount + 1 →
        s.joinMark = { s with rcu := { s.rcu with state := .idle }
                              biu := { s.biu with joinCount := s.biu.joinCount + 1, mismatchCount := 0
                                                  unheardStreak := 0, sinceUnheard := 0 } })) ∧
    (¬retries → s.retryMarks = s) ∧
    (retries →
      let t := s.retryMarks
      t = { s with rlu := { s.rlu with sockets := t.rlu.sockets }, acu := { s.acu with records := t.acu.records } } ∧
      ∀ i : Socket,
        let p := s.rlu.sockets[i]
        let r := s.acu.records[i]
        (p.retryWait = none → t.rlu.sockets[i] = p ∧ t.acu.records[i] = r) ∧
        (∀ k, p.retryWait = some k → 1 < k →
          t.rlu.sockets[i] = { p with retryWait := some (k - 1) } ∧ t.acu.records[i] = r) ∧
        (∀ k, p.retryWait = some k → k ≤ 1 → r.state = .retry →
          t.rlu.sockets[i] = closes ∧ t.acu.records[i] = { r with state := .powering })) ∧
    (s.rcu.state = .active → s.rcu.sub = some .recovering → s.bdu.queue = [] →
      s.prof.recoveryWait ≤ s.rcu.recoverMarks + 1 → (s.rcu.recoverBulk = true → s.rlu.bulkLow = false) →
      (s.rcu.recoverUnheard = true → s.prof.lostThreshold ≤ s.biu.sinceUnheard) →
      ∃ t, exec .recoveringEnd s = .next t ∧ t.rcu.state = .active ∧ t.rcu.phase = s.rcu.phase ∧
        t.rcu.lateMark = s.rcu.lateMark ∧
        (s.rackHold = false → t.rcu.sub = some .bringUp ∧ t.rcu.remembered = none) ∧
        (s.rackHold = true → t.rcu.sub = some .held ∧ t.rcu.remembered = some .bringUp) ∧
        t.bdu.queue = .railBase ::
          (allSockets.filter (fun i => s.socketState i == .parked || s.socketState i == .off)).map Need.socket ∧
        t.thu.anchor = some s.biu.roundNumber ∧ t.acu = s.acu ∧ t.rlu = s.rlu ∧ t.biu = s.biu) ∧
    (s.rcu.state = .listen → s.biu.synced = true → s.prof.joinWait ≤ s.biu.joinCount + 1 → s.muteAtMark = none →
      exec .joinWaitEnd s =
        .next { s with rcu := { s.rcu with state := .idle }
                       biu := { s.biu with mismatchCount := 0, unheardStreak := 0, sinceUnheard := 0 } }) ∧
    (∀ (i : Socket) (k : Nat), retries → s.socketState i = .retry → s.rlu.sockets[i].retryWait = some k → k ≤ 1 →
      exec (.retryWaitEnd i) s =
        .next { s with
          rlu := { s.rlu with sockets := s.rlu.sockets.set i closes }
          acu := { s.acu with records := s.acu.records.set i { s.acu.records[i] with state := .powering } } })

/-! ### Frames -/

/-- The build of the round's frame at the start of the own slot, unless a TRANSITION need at the head has fallen to 0: the
bytes, the published held and asked and the vote are fixed, and a READ reply is no longer due (R11, R36, R60, R146). At any
other instant, and outside the transmitting states, nothing is built (R11). A frame of the round before, still being sent,
gives way to it, and a second build of a round changes nothing: the model's choice (log entries 11 and 25). -/
def Obligations.FrameBuildFixesTheFrame : Prop :=
  ∀ s : State,
    let slotStart := s.slot.val * s.prof.period * 1000 / 32
    let past := s.prof.period * 1000 - s.biu.roundTimer
    (s.transmits = true → past = slotStart → s.biu.usPhase = 0 → (s.biu.tx = .notSent ∨ s.biu.tx = .carriedOver) →
      (∀ (tr : Transit) (rest : List Need), s.bdu.queue = .transition :: rest → s.rcu.transit = some tr →
        0 < s.delta tr.target) →
      exec .statusFrameBuild s =
        .next { s with
          biu := { s.biu with tx := .sending, txFrame := s.frameBytes, txShowsHead := !s.acu.history.isEmpty, txClock := 0 }
          bdu := { s.bdu with sentHeld := s.bdu.ownHeld, sentAsked := s.askNow
                              sentNeed := if s.askNow = 0 then none else s.bdu.queue.head? }
          rcu := { s.rcu with sentVote := s.doneVote }
          acu := { s.acu with readDue := none } }) ∧
    (s.transmits = false ∨ (past ≠ slotStart ∧ s.biu.usPhase < 40) ∨ (s.biu.usPhase ≠ 0 ∧ s.biu.usPhase < 40) ∨
        (s.biu.tx ≠ .notSent ∧ s.biu.tx ≠ .carriedOver) →
      exec .statusFrameBuild s = .next s)

/-- The asked value of a frame (R57, R60): 0 with an empty queue, in HELD, in RECOVERING, and for a SOCKET need while a rail is
neither UP nor RETARGETING; otherwise the amount of the need at the head, a SOCKET need's at the level in force for sockets.
And its done vote (R36): outside ACTIVE false, in ACTIVE true under the late mark for the phase, or when every socket neither
FAILED nor EXCLUDED has credit of at least the target. A TRANSITION need whose amount has fallen to 0 is withdrawn at the
build, and the retarget starts (R58). -/
def Obligations.AskedValueAndVoteFollowTheirTables : Prop :=
  ∀ s : State,
    (s.bdu.queue = [] → s.askNow = 0) ∧
    (s.rcu.sub = some .held ∨ s.rcu.sub = some .recovering → s.askNow = 0) ∧
    (∀ (n : Need) (rest : List Need), s.bdu.queue = n :: rest → s.rcu.sub ≠ some .held → s.rcu.sub ≠ some .recovering →
      (n = .railBase → s.askNow = s.prof.base[s.rcu.levelA s.rcu.phase]) ∧
      (n = .heater → s.askNow = s.prof.nominal) ∧
      (∀ t, n = .transition → s.rcu.transit = some t → s.askNow = (s.delta t.target).toNat) ∧
      (∀ i, n = .socket i →
        ((∀ r : Rail, s.railState r = .up ∨ s.railState r = .retargeting) →
          s.askNow = s.prof.allowance[s.levelInForce]) ∧
        ((∃ r : Rail, s.railState r ≠ .up ∧ s.railState r ≠ .retargeting) → s.askNow = 0))) ∧
    (s.rcu.transit = none → s.levelInForce = s.rcu.levelA s.rcu.phase) ∧
    (∀ t, s.rcu.transit = some t → s.levelInForce = match t.stage with
      | .stopping | .granting => s.rcu.levelA s.rcu.phase
      | .retargeting => max (s.rcu.levelA s.rcu.phase) (s.rcu.levelA t.target)
      | .complete => s.rcu.levelA t.target) ∧
    (s.rcu.state ≠ .active → s.doneVote = false) ∧
    (s.rcu.state = .active → (s.doneVote = true ↔ s.rcu.lateMark = some s.rcu.phase ∨
      ∀ i : Socket, s.socketState i ≠ .failed → s.socketState i ≠ .excluded →
        s.target s.rcu.phase ≤ s.acu.records[i].creditAt s.rcu.phase)) ∧
    (∀ (t : Transit) (rest : List Need), s.transmits = true →
      s.prof.period * 1000 - s.biu.roundTimer = s.slot.val * s.prof.period * 1000 / 32 → s.biu.usPhase = 0 →
      (s.biu.tx = .notSent ∨ s.biu.tx = .carriedOver) → s.bdu.queue = .transition :: rest →
      s.rcu.transit = some t → s.delta t.target ≤ 0 →
      exec .statusFrameBuild s = .next ((s.withdraw .transition).startRetarget t.target).sendFrame)

/-- A frame built is 30 bytes long, 14 more with a head entry and 24 more with a READ reply (R166); received in the
station's slot, it reports what the station held at its build (R12, R167 to R169, R182). The fields that serve the controller
alone stand in their bytes: the eight flags, the end cause, the command report, the two masks, the tokens in use and the mean
duty (R108, R147, R163, R168, R170, R182), the head entry (R171, R184), and the reply from the record named by the last READ
(R146, R172, R185). -/
def Obligations.BuiltFrameReadsBack : Prop :=
  ∀ s : State,
    let f := s.frameBytes
    let eligible := allSockets.filter s.eligible
    f.length = 30 + (if s.acu.history = [] then 0 else 14) + (if s.acu.readDue = none then 0 else 24) ∧
    (s.rcu.phase < 16 → s.bdu.ownHeld < 65536 → s.askNow < 65536 →
      parseStatus s.slot.val f =
        some { round := s.biu.roundNumber, stateCode := BitVec.ofNat 2 s.rcu.state.code
               subCode := BitVec.ofNat 3 (subCodeOf s.rcu.sub), hold := s.holdFlag, rackCode := s.ldr.rackCode
               planCode := s.rcu.planCode, phase := s.rcu.phase, vote := s.doneVote, held := s.bdu.ownHeld
               asked := s.askNow, heard := s.biu.heardMask }) ∧
    (bitOf (byteAt f 7) 7 = s.holdFlag ∧ bitOf (byteAt f 7) 6 = s.acu.overflow ∧
      (bitOf (byteAt f 7) 5 = true ↔ s.acu.history ≠ []) ∧ (bitOf (byteAt f 7) 4 = true ↔ s.acu.readDue ≠ none) ∧
      (bitOf (byteAt f 7) 3 = true ↔ ∃ k : Station, s.isOwn k = false ∧ s.biu.peers[k].presence ≠ .absent ∧
        s.biu.peers[k].rackDiffers = true) ∧
      bitOf (byteAt f 7) 2 = s.biu.driftWarn ∧ bitOf (byteAt f 7) 1 = s.biu.driftSevere ∧
      (bitOf (byteAt f 7) 0 = true ↔ 1 ≤ s.biu.unheardStreak ∨
        (s.rcu.sub = some .recovering ∧ s.rcu.recoverUnheard = true ∧ s.biu.sinceUnheard < s.prof.lostThreshold))) ∧
    byteAt f 6 % 8 = (match s.rcu.endCause with
      | none => 0
      | some .complete => 1
      | some .aborted => 2
      | some .stopped => 3) ∧
    byteAt f 21 % 16 = s.acu.reportCode.toNat ∧
    byteAt f 21 / 16 = (match s.acu.reportResult with
      | .none => 0
      | .accepted => 1
      | .refusedState => 2
      | .refusedArg => 3
      | .ignored => 4) ∧
    (∀ i : Socket, (bitOf (u16At f 22) i.val = true ↔ s.socketState i = .failed) ∧
      (bitOf (u16At f 24) i.val = true ↔ s.socketState i = .running)) ∧
    byteAt f 26 = (allSockets.filter (fun i => s.heaterLine i)).length ∧
    (s.meanDuty = (eligible.map (fun i => s.thu.heaters[i].onTime)).sum * 100 / (eligible.length * s.prof.heaterPeriod) ∧
      ((∀ i : Socket, s.thu.heaters[i].onTime ≤ s.prof.heaterPeriod) → s.meanDuty ≤ 100 ∧ byteAt f 27 = s.meanDuty)) ∧
    (∀ (e : Entry) (rest : List Entry), s.acu.history = e :: rest →
      byteAt f 28 / 128 = (if e.final then 1 else 0) ∧ byteAt f 28 % 16 = (e.socket.map Fin.val).getD 0 ∧
      (e.phase < 256 → byteAt f 29 = e.phase) ∧ u32At f 30 = e.round.toNat ∧
      (e.credit.getD 0 < 2 ^ 32 → u32At f 34 = e.credit.getD 0) ∧
      (match e.finding with
      | .openLoad c => byteAt f 28 / 16 % 8 = 1 ∧ u16At f 38 = c.toNat ∧ u16At f 40 = 0
      | .overcurrent c n => byteAt f 28 / 16 % 8 = 2 ∧ (c < 65536 → u16At f 38 = c) ∧ (n < 256 → byteAt f 40 = n) ∧
        byteAt f 41 = 0
      | .functional g inverted => byteAt f 28 / 16 % 8 = 3 ∧ u16At f 38 = g.toNat ∧
        byteAt f 40 = (if inverted then 1 else 0) ∧ byteAt f 41 = 0
      | .soft g inverted => byteAt f 28 / 16 % 8 = 4 ∧ u16At f 38 = g.toNat ∧
        byteAt f 40 = (if inverted then 1 else 0) ∧ byteAt f 41 = 0
      | .thermal temp => byteAt f 28 / 16 % 8 = 5 ∧ (-32768 ≤ temp → temp < 32768 → s16At f 38 = temp) ∧ u16At f 40 = 0
      | .sensor code => byteAt f 28 / 16 % 8 = 6 ∧ u16At f 38 = code.toNat ∧ u16At f 40 = 0
      | .interruption cause count => byteAt f 28 / 16 % 8 = 7 ∧
        byteAt f 38 = (match cause with
          | .rail => 1
          | .bulk => 2
          | .board => 3
          | .unheard => 4) ∧
        (count < 256 → byteAt f 39 = count) ∧ u16At f 40 = 0)) ∧
    (∀ i : Socket, s.acu.readDue = some i →
      let o := 28 + (if s.acu.history = [] then 0 else 14)
      let r := s.acu.records[i]
      let failed := if r.state = .failed then r.failure else none
      let phase := (failed.map Failure.phase).getD s.rcu.phase
      let credit := (failed.map Failure.credit).getD (r.creditAt s.rcu.phase)
      byteAt f o / 128 = (if r.soft then 1 else 0) ∧ byteAt f o % 16 = i.val ∧
      byteAt f o / 16 % 8 = (match r.band with
        | .cold => 0
        | .window => 1
        | .warm => 2
        | .trip => 3
        | .unknown => 4) ∧
      (r.retries < 4 → byteAt f (o + 1) / 8 % 4 = r.retries ∧
        byteAt f (o + 1) / 32 = (match r.state with
          | .off => 0
          | .powering => 1
          | .settled => 2
          | .running => 3
          | .retry => 4
          | .parked => 5
          | .failed => 6
          | .excluded => 7) ∧
        byteAt f (o + 1) % 8 = (match r.state, r.source, r.failure.map Failure.kind with
          | .excluded, some .profile, _ => 1
          | .excluded, some .command, _ => 2
          | .failed, _, some .openLoad => 3
          | .failed, _, some .overcurrent => 4
          | .failed, _, some .functional => 5
          | .failed, _, some .thermal => 6
          | _, _, _ => 0)) ∧
      (r.streak < 16 → phase < 16 → byteAt f (o + 2) = 16 * r.streak + phase) ∧
      (credit < 2 ^ 32 → u32At f (o + 3) = credit) ∧ (r.exposure < 2 ^ 32 → u32At f (o + 7) = r.exposure) ∧
      u32At f (o + 11) = r.passCount.toNat ∧ u16At f (o + 15) = r.mismatchCount.toNat ∧
      u16At f (o + 17) = r.lastCurrent.toNat ∧
      (-32768 ≤ r.lastTemp → r.lastTemp < 32768 → s16At f (o + 19) = r.lastTemp) ∧
      (r.onTime < 65536 → u16At f (o + 21) = r.onTime) ∧
      (s.thu.heaters[i].sensorStreak < 256 → byteAt f (o + 23) = s.thu.heaters[i].sensorStreak))

/-- The first mismatching bit stops the frame being sent, which then never ends whole. A frame whose last stop bit has ended is
read back whole: the head entry it carries takes the shown mark, also when an early mark came before its end (R157), and it
is received in the station's own slot (R12, R14). Before its last stop bit no frame ends. That a frame carried over an early
mark is not received in the own slot, and is not counted, is the model's choice (log entry 11). -/
def Obligations.ReadbackDecidesTheFrame : Prop :=
  ∀ s : State,
    let shown : Acu := { s.acu with shown := s.acu.shown || (s.biu.txShowsHead && !s.acu.history.isEmpty) }
    (s.biu.txClock ≠ s.frameTicks → exec .statusFrameEnd s = .next s) ∧
    (s.biu.tx = .carriedOver →
      exec .readbackMismatch s = .next { s with biu := { s.biu with tx := .notSent } } ∧
      (s.biu.txClock = s.frameTicks →
        exec .statusFrameEnd s = .next { s with biu := { s.biu with tx := .notSent }, acu := shown })) ∧
    (s.biu.tx = .sending →
      (exec .readbackMismatch s = .next { s with biu := { s.biu with tx := .stoppedByReadback } } ∧
        ∀ t, exec .readbackMismatch s = .next t → exec .statusFrameEnd t = .next t) ∧
      (∀ (k : Station) (r : StatusReport), s.biu.txClock = s.frameTicks → stationSlot k = s.slot.val →
        parseStatus s.slot.val s.biu.txFrame = some r →
        exec .statusFrameEnd s =
          .next { s with
            biu := { s.biu with tx := .sentWhole, rxStatus := s.biu.rxStatus.set k (some r)
                                received := s.biu.received ||| BitVec.ofNat 32 (2 ^ s.slot.val) }
            acu := shown }))

/-- A status frame that checks, and whose first start bit and last byte lie within its slot by the round timer, in a slot not
yet received that is not the own slot of a transmitting station, is recorded for its slot (R12, R17); one that does not check,
or that begins before its slot or ends after it, leaves the slot missed, as it was. That a later whole frame of the slot is
then received, and that a frame's first start bit is taken as ten bit times a byte before its end, is the model's choice (log
entries 33 and 39). -/
def Obligations.StatusFrameIsRecordedForItsSlot : Prop :=
  ∀ (s : State) (slot : Slot) (k : Station) (bytes : List Byte), s.running = true → s.biu.synced = true →
    s.biu.rxBroken ≠ some slot → stationSlot k = slot.val → (s.transmits = true → slot ≠ s.slot) →
    s.biu.received.getLsbD slot.val = false →
    let flags := byteAt bytes 7
    let length := 30 + (if bitOf flags 5 then 14 else 0) + (if bitOf flags 4 then 24 else 0)
    let now := 40 * (s.prof.period * 1000 - s.biu.roundTimer) + s.biu.usPhase
    let inside : Prop := 40 * (slot.val * (s.prof.period * 1000) / 32) + 10 * length * bitTicks s.rate ≤ now ∧
      now < 40 * ((slot.val + 1) * (s.prof.period * 1000) / 32)
    (∀ r, inside → parseStatus slot.val bytes = some r →
      exec (.frameReceived slot bytes) s =
        .next { s with biu := { s.biu with rxStatus := s.biu.rxStatus.set k (some r)
                                           received := s.biu.received ||| BitVec.ofNat 32 (2 ^ slot.val) } }) ∧
    (¬inside ∨ parseStatus slot.val bytes = none → exec (.frameReceived slot bytes) s = .next s)

/-- A command frame that lies within its slot is recorded for its slot and round number; addressed to this station and of good
form it then acts as the row of its command, and otherwise nothing is taken (R9, R12, R13, R161, R162). One that begins before
its slot or ends after it changes nothing (R12). That reception and command are one step, and that the first start bit is taken
as ten bit times a byte before the end, is the model's choice (log entries 8 and 39). -/
def Obligations.CommandFrameActsAsItsRow : Prop :=
  ∀ (s : State) (slot : Slot) (bytes : List Byte) (f : CommandFrame), s.running = true → s.biu.synced = true →
    s.biu.rxBroken ≠ some slot → slot.val < 2 → (s.transmits = true → slot ≠ s.slot) →
    s.biu.received.getLsbD slot.val = false → parseCommand slot.val bytes = some f →
    let now := 40 * (s.prof.period * 1000 - s.biu.roundTimer) + s.biu.usPhase
    let inside : Prop := 40 * (slot.val * (s.prof.period * 1000) / 32) + 10 * (11 + f.args.length) * bitTicks s.rate ≤ now ∧
      now < 40 * ((slot.val + 1) * (s.prof.period * 1000) / 32)
    let heard : State := { s with biu := { s.biu with rxRounds := s.biu.rxRounds ++ [f.round]
                                                      received := s.biu.received ||| BitVec.ofNat 32 (2 ^ slot.val) } }
    (¬inside → exec (.frameReceived slot bytes) s = .next s) ∧
    (inside → (s.transmits = false ∨ (f.target ≠ s.slot.val ∧ f.target ≠ 255)) →
      exec (.frameReceived slot bytes) s = .next heard) ∧
    (inside → s.transmits = true → f.target = s.slot.val ∨ f.target = 255 →
      (f.code = 1 → f.args.length = 14 → exec (.frameReceived slot bytes) s = exec (.cmdPlan f.args) heard) ∧
      (f.code = 2 → f.args = [] → exec (.frameReceived slot bytes) s = exec .cmdStart heard) ∧
      (f.code = 3 → f.args = [] → exec (.frameReceived slot bytes) s = exec .cmdHold heard) ∧
      (f.code = 4 → f.args = [] → exec (.frameReceived slot bytes) s = exec .cmdResume heard) ∧
      (∀ q, f.code = 5 → f.args = [q] → exec (.frameReceived slot bytes) s = exec (.cmdAdvance q) heard) ∧
      (f.code = 6 → f.args = [] → exec (.frameReceived slot bytes) s = exec .cmdAbort heard) ∧
      (∀ b, f.code = 7 → f.args = [b] → f.target ≠ 255 →
        exec (.frameReceived slot bytes) s = exec (.cmdExclude b) heard) ∧
      (∀ b, f.code = 8 → f.args = [b] → f.target ≠ 255 →
        exec (.frameReceived slot bytes) s = exec (.cmdInclude b) heard) ∧
      (∀ b, f.code = 9 → f.args = [b] → f.target ≠ 255 →
        exec (.frameReceived slot bytes) s = exec (.cmdRead b) heard) ∧
      (f.code = 10 → f.args = [] → f.target ≠ 255 → exec (.frameReceived slot bytes) s = exec .cmdTake heard) ∧
      (f.code = 11 → f.args = [] → exec (.frameReceived slot bytes) s = exec .cmdClear heard) ∧
      (formOk (f.target == 255) f.code.toNat f.args.length = false →
        exec (.frameReceived slot bytes) s = exec (.invalidCommand f.code) heard))

/-- A framing error marks the frame in progress broken, and the next frame or gap of the slot takes the mark away (log entry
10, the model's choice); a frame so marked is not received, and neither is one that a gap ends (R2, R12). That a gap leaves the
slot open to a later whole frame is the model's choice (log entry 33). -/
def Obligations.BrokenFrameIsNotReceived : Prop :=
  ∀ (s : State) (slot : Slot), s.running = true → s.biu.synced = true →
    exec (.framingError slot) s = .next { s with biu := { s.biu with rxBroken := some slot } } ∧
    (s.biu.rxBroken = some slot →
      (∀ bytes, exec (.frameReceived slot bytes) s = .next { s with biu := { s.biu with rxBroken := none } }) ∧
      exec (.frameBroken slot) s = .next { s with biu := { s.biu with rxBroken := none } }) ∧
    (s.biu.rxBroken ≠ some slot → exec (.frameBroken slot) s = .next s)

/-! ### Commands -/

/-- A command row, in a transmitting state that its row of R164 does not list, is refused with REFUSED_STATE, and a command
of bad form with REFUSED_ARG under its code, or 15 for an unassigned one (R162, R163, R188); neither changes anything else.
Outside the transmitting states no command is taken (R161). That INVALID_COMMAND carries the code alone is the model's
choice (log entry 26). -/
def Obligations.RefusedCommandsOnlyReport : Prop :=
  ∀ s : State,
    (∀ (c : Instr) (code : BitVec 4), c.commandCode = some code →
      (s.transmits = false → exec c s = .next s) ∧
      (s.transmits = true → c.takenIn s.rcu.state = false →
        exec c s = .next { s with acu := { s.acu with reportCode := code, reportResult := .refusedState } })) ∧
    (∀ code : Byte,
      (s.transmits = false → exec (.invalidCommand code) s = .next s) ∧
      (s.transmits = true → 1 ≤ code.toNat → code.toNat ≤ 11 →
        exec (.invalidCommand code) s =
          .next { s with acu := { s.acu with reportCode := BitVec.ofNat 4 code.toNat, reportResult := .refusedArg } }) ∧
      (s.transmits = true → (code = 0 ∨ 11 < code.toNat) →
        exec (.invalidCommand code) s =
          .next { s with acu := { s.acu with reportCode := 15, reportResult := .refusedArg } }))

/-- PLAN in IDLE (R28, R29): an entry that reads in range is stored under its index, beside the entries held of the same
length and alone otherwise, and the plan code is computed anew; any other entry is refused with REFUSED_ARG. The plan is
complete when it holds every index from 0 to n - 1, all with the same n; the plan code is then the CRC over their bytes in index
order, and 0 while it is not (R29, R181), the CRC's check value being R181's. -/
def Obligations.PlanStoresAnAcceptedEntry : Prop :=
  crc [0x31, 0x32, 0x33, 0x34, 0x35, 0x36, 0x37, 0x38, 0x39] = 0x29B1 ∧
  (∀ r : Rcu,
    (r.planComplete = true ↔ ∃ n, 0 < n ∧ ∀ p, p < n → ∃ e, r.entry p = some e ∧ e.length = n) ∧
    (r.planComplete = false → r.codeOfPlan = 0) ∧
    ∀ (n : Nat) (entries : Nat → PlanEntry), 0 < n →
      (∀ p, p < n → r.entry p = some (entries p) ∧ (entries p).length = n) →
      r.codeOfPlan = crc ((List.range n).flatMap (fun p => (entries p).bytes))) ∧
  ∀ (s : State) (args : List Byte), s.rcu.state = .idle →
    (∀ e, parsePlan s.prof.loops.length args = some e →
      ∃ t, exec (.cmdPlan args) s = .next t ∧
        t = { s with rcu := { s.rcu with plan := t.rcu.plan, planCode := t.rcu.planCode }
                     acu := { s.acu with reportCode := 1, reportResult := .accepted } } ∧
        t.rcu.entry e.index = some e ∧
        (∀ j, j ≠ e.index → t.rcu.entry j = if s.rcu.planLength = e.length then s.rcu.entry j else none) ∧
        t.rcu.planCode = t.rcu.codeOfPlan) ∧
    (parsePlan s.prof.loops.length args = none →
      exec (.cmdPlan args) s = .next { s with acu := { s.acu with reportCode := 1, reportResult := .refusedArg } })

/-- The fourteen bytes of a plan entry in range, whose loop the profile defines, read back as that entry; and fourteen bytes
that read as an entry are that entry's bytes, every field in range, with the bits that must be 0 clear, the polarity and pattern
codes assigned and the loop defined (R28, R186, R188). -/
def Obligations.PlanEntryBytesReadBack : Prop :=
  (∀ (e : PlanEntry) (loops : Nat), e.inRange = true → (∀ k, e.pattern = .loop k → k < 8 ∧ k < loops) →
    e.bytes.length = 14 ∧ parsePlan loops e.bytes = some e) ∧
  (∀ (args : List Byte) (loops : Nat) (e : PlanEntry), parsePlan loops args = some e →
    1 ≤ e.length ∧ e.length ≤ 12 ∧ e.index < e.length ∧ -80 ≤ e.lo ∧ e.lo < e.hi ∧ e.hi ≤ 430 ∧
    1 ≤ e.clockWord ∧ e.clockWord ≤ 4194304 ∧ 1 ≤ e.minutes ∧ e.minutes ≤ 65535 ∧
    (∀ k, e.pattern = .loop k → k < 8 ∧ k < loops) ∧
    bitOf (byteAt args 5) 6 = false ∧ bitOf (byteAt args 6) 7 = false ∧ bitOf (byteAt args 6) 6 = false ∧
    byteAt args 6 / 16 % 4 ≠ 3 ∧
    (byteAt args 6 % 16 = 15 ∨ (byteAt args 6 % 16 < 8 ∧ byteAt args 6 % 16 < loops)) ∧
    (args.length = 14 → e.bytes = args))

/-- START in IDLE is ACCEPTED and held pending with a complete plan, and refused with REFUSED_ARG without one (R30). ADVANCE in
ACTIVE (R35, R164) is pending when it names the phase index or the target of the transition, IGNORED at any other phase,
refused with REFUSED_ARG above 11. READ marks a reply as due for its socket, and the later of two READs stands; a number above
15 is refused (R146). -/
def Obligations.StartAdvanceAndReadAreHeld : Prop :=
  (∀ s : State, s.rcu.state = .idle →
    (s.rcu.planComplete = true →
      exec .cmdStart s = .next { s with rcu := { s.rcu with startPending := true }
                                        acu := { s.acu with reportCode := 2, reportResult := .accepted } }) ∧
    (s.rcu.planComplete = false →
      exec .cmdStart s = .next { s with acu := { s.acu with reportCode := 2, reportResult := .refusedArg } })) ∧
  (∀ (s : State) (q : Byte), s.rcu.state = .active →
    (11 < q.toNat →
      exec (.cmdAdvance q) s = .next { s with acu := { s.acu with reportCode := 5, reportResult := .refusedArg } }) ∧
    (q.toNat ≤ 11 → (s.rcu.phase = q.toNat ∨ ∃ t, s.rcu.transit = some t ∧ t.target = q.toNat) →
      exec (.cmdAdvance q) s = .next { s with rcu := { s.rcu with advance := some q.toNat }
                                              acu := { s.acu with reportCode := 5, reportResult := .accepted } }) ∧
    (q.toNat ≤ 11 → s.rcu.phase ≠ q.toNat → (∀ t, s.rcu.transit = some t → t.target ≠ q.toNat) →
      exec (.cmdAdvance q) s = .next { s with acu := { s.acu with reportCode := 5, reportResult := .ignored } })) ∧
  (∀ (s : State) (b : Byte), s.transmits = true →
    (15 < b.toNat →
      exec (.cmdRead b) s = .next { s with acu := { s.acu with reportCode := 9, reportResult := .refusedArg } }) ∧
    (∀ i : Socket, b.toNat = i.val →
      exec (.cmdRead b) s = .next { s with acu := { s.acu with readDue := some i, reportCode := 9
                                                               reportResult := .accepted } }))

/-- HOLD sets the commanded hold and RESUME clears it, in every transmitting state; DOOR_CHANGE follows the line; and the
own hold flag is set while any of the three sources holds (R37). -/
def Obligations.HoldSourcesSetTheHoldFlag : Prop :=
  ∀ s : State,
    (s.transmits = true →
      exec .cmdHold s = .next { s with rcu := { s.rcu with cmdHold := true }
                                       acu := { s.acu with reportCode := 3, reportResult := .accepted } } ∧
      exec .cmdResume s = .next { s with rcu := { s.rcu with cmdHold := false }
                                         acu := { s.acu with reportCode := 4, reportResult := .accepted } }) ∧
    (∀ asserted, exec (.doorChange asserted) s = .next { s with door := asserted }) ∧
    (s.holdFlag = true ↔ s.rcu.cmdHold = true ∨ s.door = true ∨ s.rlu.bulkLow = true)

/-- ABORT in ACTIVE (R48, R49): the pass is abandoned, the queue cleared and what is remembered discarded; heaters and
switches go off and the sockets become OFF; with every rail already OFF the station is in DONE at once, holding
nothing, and otherwise in WINDDOWN, its power-down started: the own held has lost the tokens and the allowances of the holding
sockets, and the first rail in the order C, B, A that is not OFF is FALLING (R49, R68, R76). -/
def Obligations.AbortWindsTheRunDown : Prop :=
  ∀ s : State, s.rcu.state = .active →
    ∃ t, exec .cmdAbort s = .next t ∧ t.rcu.endCause = some .aborted ∧ t.rcu.sub = none ∧ t.rcu.remembered = none ∧
      t.rcu.transit = none ∧ t.rcu.advance = none ∧ t.ptu.engine = .stopped ∧ t.bdu.queue = [] ∧ t.thu.tokens = 0 ∧
      t.acu.reportCode = 6 ∧ t.acu.reportResult = .accepted ∧ t.acu.stationGate = false ∧
      t.acu.history = s.acu.history ∧ t.rcu.phase = s.rcu.phase ∧ t.rcu.intCount = s.rcu.intCount ∧ t.biu = s.biu ∧
      (∀ i : Socket, t.thu.heaters[i].phase = .stopped ∧
        (t.socketState i = if (s.socketState i).holds ∨ s.socketState i = .parked then .off else s.socketState i) ∧
        ((s.socketState i).holds = true → t.rlu.sockets[i].closed = false) ∧
        t.acu.records[i].credit = s.acu.records[i].credit ∧ t.acu.records[i].exposure = s.acu.records[i].exposure) ∧
      s.windsDown t

/-- EXCLUDE in IDLE and ACTIVE (R90, R144): OFF and PARKED sockets become EXCLUDED and their need is withdrawn; one that
holds an allowance, with no token release pending, also has its switch opened, its timers and streaks stopped, its
allowance released and its heater off; EXCLUDED ones are IGNORED; FAILED ones and numbers above 15 are refused. INCLUDE in IDLE
(R145): a socket EXCLUDED by command becomes OFF; one excluded by the profile, and a number above 15, is refused; an OFF one is
IGNORED. -/
def Obligations.ExcludeAndIncludeFollowTheSocketState : Prop :=
  ∀ (s : State) (b : Byte) (i : Socket),
    ((s.rcu.state = .idle ∨ s.rcu.state = .active) →
      (15 < b.toNat →
        exec (.cmdExclude b) s = .next { s with acu := { s.acu with reportCode := 7, reportResult := .refusedArg } }) ∧
      (b.toNat = i.val →
        ((s.socketState i = .off ∨ s.socketState i = .parked) →
          exec (.cmdExclude b) s =
            .next { s with
              bdu := { s.bdu with queue := s.bdu.queue.filter (· != .socket i) }
              acu := { s.acu with
                records := s.acu.records.set i { s.acu.records[i] with state := .excluded, source := some .command }
                reportCode := 7, reportResult := .accepted } }) ∧
        ((s.socketState i).holds = true → s.queueMatches → s.thu.releasePending = false →
          ∃ t, exec (.cmdExclude b) s = .next t ∧ t.acu.reportCode = 7 ∧ t.acu.reportResult = .accepted ∧
            t.acu.records = s.acu.records.set i { s.acu.records[i] with state := .excluded, source := some .command } ∧
            t.rlu.sockets = s.rlu.sockets.set i SocketPower.initial ∧
            t.bdu = { s.bdu with ownHeld := s.bdu.ownHeld - s.rlu.sockets[i].allowance } ∧
            t.heaterLine i = false ∧ t.thu.heaters[i].onTime = 0 ∧ t.ptu.members = s.ptu.members.set i false ∧
            t.acu.history = s.acu.history ∧ t.rcu = s.rcu ∧ t.biu = s.biu) ∧
        (s.socketState i = .excluded →
          exec (.cmdExclude b) s = .next { s with acu := { s.acu with reportCode := 7, reportResult := .ignored } }) ∧
        (s.socketState i = .failed →
          exec (.cmdExclude b) s =
            .next { s with acu := { s.acu with reportCode := 7, reportResult := .refusedArg } }))) ∧
    (s.rcu.state = .idle →
      (15 < b.toNat →
        exec (.cmdInclude b) s = .next { s with acu := { s.acu with reportCode := 8, reportResult := .refusedArg } }) ∧
      (b.toNat = i.val →
        (s.socketState i = .excluded → s.acu.records[i].source = some .command →
          exec (.cmdInclude b) s =
            .next { s with acu := { s.acu with
              records := s.acu.records.set i { s.acu.records[i] with state := .off, source := none }
              reportCode := 8, reportResult := .accepted } }) ∧
        (s.socketState i = .excluded → s.acu.records[i].source = some .profile →
          exec (.cmdInclude b) s =
            .next { s with acu := { s.acu with reportCode := 8, reportResult := .refusedArg } }) ∧
        (s.socketState i = .off →
          exec (.cmdInclude b) s =
            .next { s with acu := { s.acu with reportCode := 8, reportResult := .ignored } })))

/-- TAKE removes the head entry exactly when it carries the shown mark, and the next head carries none (R158). CLEAR in IDLE and
DONE (R51, R110, R130, R148, R159): what it resets, and what it keeps. That the record's on-time is kept with the other
measurements is the model's choice (log entry 36). -/
def Obligations.TakeAndClearEmptyTheHistory : Prop :=
  (∀ s : State, s.transmits = true →
    (∀ (e : Entry) (rest : List Entry), s.acu.history = e :: rest → s.acu.shown = true →
      ∃ t, exec .cmdTake s = .next t ∧
        t.acu = { s.acu with history := rest, shown := false, reportCode := 10, reportResult := .accepted } ∧
        t = { s with acu := t.acu, biu := { s.biu with txShowsHead := false } }) ∧
    (s.acu.history = [] ∨ s.acu.shown = false →
      exec .cmdTake s = .next { s with acu := { s.acu with reportCode := 10, reportResult := .ignored } })) ∧
  (∀ s : State, (s.rcu.state = .idle ∨ s.rcu.state = .done) →
    ∃ t, exec .cmdClear s = .next t ∧ t.rcu.state = .idle ∧ t.rcu.phase = 0 ∧ t.rcu.intCount = 0 ∧
      t.rcu.lateMark = none ∧ t.rcu.endCause = none ∧ t.rcu.startPending = false ∧ t.biu.unheardStreak = 0 ∧
      t.biu.sinceUnheard = 0 ∧ t.acu.history = [] ∧ t.acu.overflow = false ∧ t.acu.shown = false ∧
      t.acu.reportCode = 11 ∧ t.acu.reportResult = .accepted ∧ t.failLine = false ∧ t.ptu.passIndex = 0 ∧
      t.ptu.reentryLeft = 0 ∧
      (∀ i : Socket, t.ptu.sigs[i] = 0xFFFF ∧ t.thu.heaters[i] = { s.thu.heaters[i] with sensorStreak := 0 } ∧
        t.acu.records[i] =
          { SocketRecord.initial with
            state := if s.prof.enableMask.getLsbD i.val then .off else .excluded
            source := if s.prof.enableMask.getLsbD i.val then none else some .profile
            lastCurrent := s.acu.records[i].lastCurrent, lastTemp := s.acu.records[i].lastTemp
            band := s.acu.records[i].band, onTime := s.acu.records[i].onTime }) ∧
      t.rcu.plan = s.rcu.plan ∧ t.rcu.planCode = s.rcu.planCode ∧ t.rcu.cmdHold = s.rcu.cmdHold ∧
      t.biu.peers = s.biu.peers ∧ t.biu.roundNumber = s.biu.roundNumber ∧
      t.biu.mismatchCount = s.biu.mismatchCount ∧ t.acu.readDue = s.acu.readDue ∧ t.ldr = s.ldr ∧ t.bdu = s.bdu ∧
      t.rlu = s.rlu)

/-! ### Rails, sockets and currents -/

/-- A current reading at the end of its conversion sets the last current, and with the switch closed it is supervised (R80,
R84, R85, R87, R121, R136): above the threshold the debounce streak rises, and the reading that completes the debounce trips
the socket with itself as the detail current, which then waits in RETRY or is FAILED by the table of R89; at or below it the
streak is 0. A SETTLED socket, and one in its settle time, is judged no further. In the open
check a reading at or above the floor makes the socket SETTLED, or RUNNING while the engine is STATIC, and the third below it
fails it as OPEN; a RUNNING socket fails at its sixteenth in a row. After the check that settles it no trip follows at that
instant (R91). The end of the settle timer begins the open check. That a reading which trips is not judged by the open check,
and that a reading taken after the event from which it counts does count at that event's very instant, are the model's choice
(log entries 12 and 41). -/
def Obligations.CurrentReadingIsSupervised : Prop :=
  ∀ (s : State) (i : Socket),
    (s.socketState i = .powering → s.rlu.sockets[i].openCheck = none →
      exec (.socketSettleEnd i) s =
        .next { s with
          rlu := { s.rlu with
            sockets := s.rlu.sockets.set i { s.rlu.sockets[i] with settle := none, openCheck := some 0 } } }) ∧
    ∀ c : Half, s.ending = some (.current i) →
      let p := s.rlu.sockets[i]
      let d := if p.threshold < c.toNat then p.debounce + 1 else 0
      let r := { s.acu.records[i] with lastCurrent := c }
      let read : State := { s.handed with acu := { s.acu with records := s.acu.records.set i r } }
      let supervised (q : SocketPower) : State := { read with rlu := { s.rlu with sockets := s.rlu.sockets.set i q } }
      let opens : Prop := ∃ t, exec (.socketCurrentReading i c) s = .next t ∧ read.failsSocket t i .openLoad (.openLoad c)
      (p.closed = false → exec (.socketCurrentReading i c) s = .next read) ∧
      (p.closed = true → (s.socketState i).powered = true → p.threshold < c.toNat →
        s.prof.tripDebounce ≤ p.debounce + 1 →
        ∃ t, exec (.socketCurrentReading i c) s = .next t ∧ read.tripsSocket t i c.toNat) ∧
      (p.closed = true → (p.threshold < c.toNat → p.debounce + 1 < s.prof.tripDebounce) →
        (s.socketState i = .settled ∨ (s.socketState i = .powering ∧ p.openCheck = none) →
          exec (.socketCurrentReading i c) s = .next (supervised { p with debounce := d })) ∧
        (∀ low, s.socketState i = .powering → p.openCheck = some low →
          (s.prof.openFloor ≤ c.toNat →
            exec (.socketCurrentReading i c) s =
              .next { supervised { p with debounce := d, openCheck := none, settledNow := true } with
                acu := { s.acu with
                  records := s.acu.records.set i
                    { r with state := if s.ptu.engine = .static then .running else .settled } } }) ∧
          (c.toNat < s.prof.openFloor → low + 1 < 3 →
            exec (.socketCurrentReading i c) s =
              .next (supervised { p with debounce := d, openCheck := some (low + 1) })) ∧
          (c.toNat < s.prof.openFloor → 3 ≤ low + 1 → opens)) ∧
        (s.socketState i = .running →
          (s.prof.openFloor ≤ c.toNat →
            exec (.socketCurrentReading i c) s = .next (supervised { p with debounce := d, openStreak := 0 })) ∧
          (c.toNat < s.prof.openFloor → p.openStreak + 1 < 16 →
            exec (.socketCurrentReading i c) s =
              .next (supervised { p with debounce := d, openStreak := p.openStreak + 1 })) ∧
          (c.toNat < s.prof.openFloor → 16 ≤ p.openStreak + 1 → opens)))

/-- An instant trip (R88, R89, R135, R150 to R152), its detail current twice the threshold: the switch opens and the heater is
off, a token it returns going to a pending release where there is one (R104); with retries left the socket waits in RETRY with its allowance kept, and otherwise it is FAILED with its allowance
released; either way one OVERCURRENT entry is written if there is room, its retry number the new retries used, or the
retries used at the limit. Nothing trips with the switch open or the current at or below twice the threshold (R88), nor at
the instant at which the open check made the socket SETTLED (R91); that R91 speaks of that instant alone is the model's reading
(log entry 40). -/
def Obligations.InstantTripRetriesOrFails : Prop :=
  (∀ (s : State) (i : Socket) (c : Half),
    (s.rlu.sockets[i].closed = false ∨ s.rlu.sockets[i].settledNow = true ∨ c.toNat ≤ 2 * s.rlu.sockets[i].threshold →
      exec (.instantTrip i c) s = .next s)) ∧
  ∀ (s : State) (i : Socket) (c : Half), s.rlu.sockets[i].closed = true → (s.socketState i).powered = true →
    s.rlu.sockets[i].settledNow = false →
    2 * s.rlu.sockets[i].threshold < c.toNat →
    ∃ t, exec (.instantTrip i c) s = .next t ∧ s.tripsSocket t i (2 * s.rlu.sockets[i].threshold)

/-- A rail reading at the end of its conversion (R71, R73, R74, R75, R76): a RAMPING rail within tolerance is UP, and the next
in the order A, B, C starts at its level for the phase; a rail UP within tolerance has its streak at 0, and outside it counts
to 4, an interruption; a RETARGETING rail within tolerance is UP at its new level, and the rails after it are taken; a FALLING
rail below one tenth is down, as at its settle time, and at one tenth or more it stays. That a reading taken after the rail
started, or entered RETARGETING or FALLING, counts also where its conversion ends at that very instant is the model's choice
(log entry 41). -/
def Obligations.RailReadingIsJudgedByItsState : Prop :=
  ∀ (s : State) (r : Rail) (v : Half), s.ending = some (.rail r) →
    let h := s.handed
    let u := s.rlu.rails[r.ix]
    let level := s.prof.levels[r.ix][u.level]
    let good : Prop := level ≤ v.toNat + s.prof.tolerance ∧ v.toNat ≤ level + s.prof.tolerance
    (u.state = .off → exec (.railReading r v) s = .next h) ∧
    (u.state = .ramping ∨ u.state = .retargeting → ¬good → exec (.railReading r v) s = .next h) ∧
    (u.state = .ramping → good → ∃ t, exec (.railReading r v) s = .next t ∧
      t.rlu.rails[r.ix] = { u with state := .up, streak := 0, timer := none } ∧
      (∀ n, nextRail r = some n → t.rlu.rails[n.ix] =
        { state := .ramping, level := s.rcu.railLevel s.rcu.phase n, streak := 0
          timer := some (msTicks s.prof.railSettle[n.ix]) }) ∧
      t.rcu = s.rcu ∧ t.bdu = s.bdu ∧ t.acu = s.acu) ∧
    (u.state = .up → good →
      exec (.railReading r v) s =
        .next { h with rlu := { s.rlu with rails := s.rlu.rails.set r.ix { u with streak := 0 } } }) ∧
    (u.state = .up → ¬good → u.streak + 1 < 4 →
      exec (.railReading r v) s =
        .next { h with rlu := { s.rlu with rails := s.rlu.rails.set r.ix { u with streak := u.streak + 1 } } }) ∧
    (u.state = .up → ¬good → 4 ≤ u.streak + 1 → exec (.railReading r v) s = .next (h.interrupt .rail)) ∧
    (u.state = .retargeting → good →
      let up : State := { h with
        rlu := { s.rlu with rails := s.rlu.rails.set r.ix { u with state := .up, streak := 0, timer := none } } }
      (∀ tr, s.rcu.transit = some tr → tr.stage = .retargeting →
        (r = .a → exec (.railReading r v) s = .next (up.takeRetarget tr.target [.b, .c])) ∧
        (r = .b → exec (.railReading r v) s = .next (up.takeRetarget tr.target [.c])) ∧
        (r = .c → exec (.railReading r v) s = .next (up.retargetComplete tr.target))) ∧
      (s.rcu.transit = none → exec (.railReading r v) s = .next up)) ∧
    (u.state = .falling → level ≤ 10 * v.toNat → exec (.railReading r v) s = .next h) ∧
    (u.state = .falling → 10 * v.toNat < level →
      exec (.railReading r v) s = exec (.railFallTimeout r) h ∧
      ∃ t, exec (.railReading r v) s = .next t ∧ t.rlu.rails[r.ix] = RailUnit.initial)

/-- A settle time that passes on a RAMPING or RETARGETING rail is an interruption with cause RAIL, and on any other rail nothing
(R72, R74). An interruption of any cause is one action (R44 to R47, R77). In ACTIVE outside RECOVERING all power is removed, the
holding sockets are PARKED, the count rises, an entry is written if there is room, and the station is RECOVERING, its wait at 0
and its end waiting on bulk after BULK and on the unheard count after UNHEARD, or, above the limit, in DONE with cause STOPPED.
In RECOVERING the entry is written with the count unchanged and the cause's condition is added, nothing more. In WINDDOWN it
completes the power-down at once and keeps the winddown's cause. In IDLE and DONE it writes its entry alone, and in the other
states no interruption is taken. -/
def Obligations.SettleTimeoutInterruptsTheRun : Prop :=
  (∀ (s : State) (r : Rail),
    (s.railState r = .ramping ∨ s.railState r = .retargeting → exec (.railSettleTimeout r) s = .next (s.interrupt .rail)) ∧
    (s.railState r ≠ .ramping → s.railState r ≠ .retargeting → exec (.railSettleTimeout r) s = .next s)) ∧
  ∀ (s : State) (cause : IntCause),
    let t := s.interrupt cause
    let written := fun count : Nat => (s.acu.history.length < 48 →
        t.acu.history = s.acu.history ++
          [{ finding := .interruption cause count, final := false, socket := none
             phase := s.rcu.phase, round := s.biu.roundNumber, credit := none }]) ∧
      (s.acu.history.length = 48 → t.acu.history = s.acu.history ∧ t.acu.overflow = true)
    ((s.rcu.state = .active ∧ s.rcu.sub ≠ some .recovering) ∨ s.rcu.state = .windDown →
      t.rcu.intCount = s.rcu.intCount + 1 ∧ t.railsOff = true ∧
      t.bdu.ownHeld = 0 ∧ t.bdu.queue = [] ∧ t.thu.tokens = 0 ∧ t.thu.waitQueue = [] ∧ t.ptu.engine = .stopped ∧
      t.rcu.remembered = none ∧ t.rcu.transit = none ∧ t.rcu.phase = s.rcu.phase ∧ t.rcu.lateMark = s.rcu.lateMark ∧
      t.biu = s.biu ∧ t.ldr = s.ldr ∧ written (s.rcu.intCount + 1) ∧
      (∀ i : Socket, t.switchLine i = false ∧ t.heaterLine i = false ∧
        t.acu.records[i].credit = s.acu.records[i].credit ∧ t.acu.records[i].retries = s.acu.records[i].retries) ∧
      (s.rcu.state = .active → s.rcu.intCount + 1 ≤ s.prof.interruptionLimit →
        t.rcu.state = .active ∧ t.rcu.sub = some .recovering ∧ t.rcu.recoverMarks = 0 ∧
        (t.rcu.recoverBulk = true ↔ cause = .bulk) ∧ (t.rcu.recoverUnheard = true ↔ cause = .unheard) ∧
        t.rcu.advance = (if s.rcu.advance = some s.rcu.phase then s.rcu.advance else none) ∧
        ∀ i : Socket, t.socketState i = if (s.socketState i).holds then .parked else s.socketState i) ∧
      (s.rcu.state = .windDown ∨ s.prof.interruptionLimit < s.rcu.intCount + 1 →
        t.rcu.state = .done ∧ t.rcu.endCause = (if s.rcu.state = .windDown then s.rcu.endCause else some .stopped) ∧
        ∀ i : Socket, t.socketState i =
          if (s.socketState i).holds ∨ s.socketState i = .parked then .off else s.socketState i)) ∧
    (s.rcu.state = .active → s.rcu.sub = some .recovering →
      written s.rcu.intCount ∧ t.acu.records = s.acu.records ∧
      t = { s with
        acu := t.acu
        rcu := { s.rcu with recoverBulk := s.rcu.recoverBulk || cause == .bulk
                            recoverUnheard := s.rcu.recoverUnheard || cause == .unheard } }) ∧
    (s.rcu.state = .idle ∨ s.rcu.state = .done →
      written s.rcu.intCount ∧ t.acu.records = s.acu.records ∧ t = { s with acu := t.acu }) ∧
    (s.rcu.state = .reset ∨ s.rcu.state = .loading ∨ s.rcu.state = .loadFail ∨ s.rcu.state = .listen ∨
      s.rcu.state = .muted → t = s)

/-- The settle time of a FALLING rail passes: it is OFF with its level at 0, and the next in the order C, B, A is taken, one
that is OFF being down at once (R49, R76). One that is UP, RAMPING or RETARGETING falls with its enable released, its level
kept, and its settle time started; after rail A, or with every rail below OFF, the winddown's last steps follow. -/
def Obligations.FallTimeoutTakesTheRailDown : Prop :=
  ∀ s : State, s.rcu.state = .windDown → s.rcu.poweringDown = true →
    let runs := fun r : Rail => s.railState r = .up ∨ s.railState r = .ramping ∨ s.railState r = .retargeting
    let falls := fun (t : State) (r : Rail) => t.railState r = .falling ∧ t.railEnable r = false ∧
      t.railLevelLine r = s.rlu.rails[r.ix].level ∧ t.rlu.rails[r.ix].timer = some (msTicks s.prof.railSettle[r.ix]) ∧
      (∀ q : Rail, q.ix < r.ix → t.rlu.rails[q.ix] = s.rlu.rails[q.ix]) ∧ t.rcu = s.rcu ∧ t.bdu = s.bdu
    let ends := fun t : State => t.railsOff = true ∧ t.rcu.state = .done ∧ t.rcu.endCause = s.rcu.endCause ∧
      t.bdu.ownHeld = 0
    (s.railState .c = .falling → ∃ t, exec (.railFallTimeout .c) s = .next t ∧
      t.rlu.rails[Rail.ix .c] = RailUnit.initial ∧
      (runs .b → falls t .b) ∧
      (s.railState .b = .off → t.railState .b = .off ∧ (runs .a → falls t .a) ∧ (s.railState .a = .off → ends t))) ∧
    (s.railState .b = .falling → ∃ t, exec (.railFallTimeout .b) s = .next t ∧
      t.rlu.rails[Rail.ix .b] = RailUnit.initial ∧
      (runs .a → falls t .a) ∧ (s.railState .a = .off → s.railState .c = .off → ends t)) ∧
    (s.railState .a = .falling → ∃ t, exec (.railFallTimeout .a) s = .next t ∧
      t.rlu.rails[Rail.ix .a] = RailUnit.initial ∧ t.rcu.state = .done ∧ t.rcu.endCause = s.rcu.endCause ∧
      t.bdu.ownHeld = 0)

/-- A bulk reading at the end of its conversion moves the status's streaks; the fourth low reading makes it low, and the
hundredth high one good, with a deferred start beginning then (R71, R78). A bulk that becomes low is reported by R79: an
interruption in ACTIVE and WINDDOWN with a rail not OFF, only an entry in IDLE and DONE, the hold source alone in LISTEN and
with all rails OFF. A board current reading while some rail is not OFF moves the board overcurrent streak, and the eighth
above the own held is an interruption with cause BOARD (R69). -/
def Obligations.BulkAndBoardReadingsAreJudged : Prop :=
  ∀ (s : State) (v : Half),
    let h := s.handed
    (s.ending = some .bulk →
      (s.rlu.bulkLow = false → s.prof.bulkThreshold ≤ v.toNat →
        exec (.bulkReading v) s = .next { h with rlu := { s.rlu with lowStreak := 0 } }) ∧
      (s.rlu.bulkLow = false → v.toNat < s.prof.bulkThreshold → s.rlu.lowStreak + 1 < 4 →
        exec (.bulkReading v) s = .next { h with rlu := { s.rlu with lowStreak := s.rlu.lowStreak + 1 } }) ∧
      (s.rlu.bulkLow = false → v.toNat < s.prof.bulkThreshold → 4 ≤ s.rlu.lowStreak + 1 →
        let low : State := { h with rlu := { s.rlu with bulkLow := true, lowStreak := 0, highStreak := 0 } }
        low.holdFlag = true ∧
        (s.railsOff = false → s.rcu.state = .active ∨ s.rcu.state = .windDown →
          exec (.bulkReading v) s = .next (low.interrupt .bulk)) ∧
        (s.railsOff = true → s.rcu.state = .active ∨ s.rcu.state = .windDown →
          exec (.bulkReading v) s = .next low) ∧
        (s.rcu.state = .idle ∨ s.rcu.state = .done →
          exec (.bulkReading v) s = .next (low.writeInterruption .bulk)) ∧
        (s.rcu.state = .listen → exec (.bulkReading v) s = .next low)) ∧
      (s.rlu.bulkLow = true → v.toNat < s.prof.bulkThreshold →
        exec (.bulkReading v) s = .next { h with rlu := { s.rlu with highStreak := 0 } }) ∧
      (s.rlu.bulkLow = true → s.prof.bulkThreshold ≤ v.toNat → s.rlu.highStreak + 1 < 100 →
        exec (.bulkReading v) s = .next { h with rlu := { s.rlu with highStreak := s.rlu.highStreak + 1 } }) ∧
      (s.rlu.bulkLow = true → s.prof.bulkThreshold ≤ v.toNat → 100 ≤ s.rlu.highStreak + 1 →
        ∃ t, exec (.bulkReading v) s = .next t ∧ t.rlu.bulkLow = false ∧ t.rlu.lowStreak = 0 ∧ t.rlu.highStreak = 0 ∧
          t.rlu.deferred = false ∧ (s.rlu.deferred = true → t.railState .a = .ramping) ∧
          (s.rlu.deferred = false → t.rlu.rails = s.rlu.rails) ∧ t.rcu = s.rcu ∧ t.bdu = s.bdu)) ∧
    (s.ending = some .board →
      (s.railsOff = true → exec (.boardCurrentReading v) s = .next h) ∧
      (s.railsOff = false → v.toNat ≤ s.bdu.ownHeld →
        exec (.boardCurrentReading v) s = .next { h with rlu := { s.rlu with boardStreak := 0 } }) ∧
      (s.railsOff = false → s.bdu.ownHeld < v.toNat → s.rlu.boardStreak + 1 < 8 →
        exec (.boardCurrentReading v) s =
          .next { h with rlu := { s.rlu with boardStreak := s.rlu.boardStreak + 1 } }) ∧
      (s.railsOff = false → s.bdu.ownHeld < v.toNat → 8 ≤ s.rlu.boardStreak + 1 →
        exec (.boardCurrentReading v) s =
          .next (State.interrupt { h with rlu := { s.rlu with boardStreak := 0 } } .board)))

/-! ### Heat -/

/-- A temperature reading at the end of its conversion, in every socket state (R81, R94 to R98, R135, R136, R140): a code from
-80 to 430 is a valid temperature, classed against the window in force and the trip margin, any other leaves the last
temperature with the band UNKNOWN; any band but WINDOW closes the socket gate; a mark scan notes a powered WARM socket. The
sensor-fault streak is 0 after a valid reading and for an EXCLUDED or FAILED socket, and otherwise rises, with one SENSOR entry
at the first. The first TRIP reading of a powered socket turns its heater off, the second in a row fails it as THERMAL, and any
other reading sets the trip streak to 0. The window is the one in force at the reading, and is kept with it (log entry 15): the phase index's in
ACTIVE and in WINDDOWN before the power-down, otherwise phase 0's of the plan held, or the whole range without one (R96). -/
def Obligations.TemperatureReadingIsJudged : Prop :=
  (∀ s : State,
    let early : Prop := s.rcu.state = .active ∨ (s.rcu.state = .windDown ∧ s.rcu.poweringDown = false)
    (∀ e, early → s.rcu.entry s.rcu.phase = some e → s.window = (e.lo, e.hi)) ∧
    (∀ e, ¬early → s.rcu.entry 0 = some e → s.window = (e.lo, e.hi)) ∧
    (¬early → s.rcu.entry 0 = none → s.window = (-80, 430))) ∧
  ∀ (s : State) (i : Socket) (code : Half), s.ending = some (.temperature i) → s.queueMatches →
    let valid : Prop := -80 ≤ code.toInt ∧ code.toInt ≤ 430
    let hot : Prop := valid ∧ s.window.1 ≤ code.toInt ∧ s.window.2 < code.toInt ∧
      s.window.2 + 2 * s.prof.tripMargin < code.toInt
    let powered : Prop := (s.socketState i).powered = true
    let streak := s.thu.heaters[i].sensorStreak
    let counts : Prop := ¬valid ∧ s.socketState i ≠ .excluded ∧ s.socketState i ≠ .failed
    ∃ t, exec (.temperatureReading i code) s = .next t ∧ t.acu.records[i].band = t.thu.heaters[i].band ∧
      t.acu.records[i].lastTemp = t.thu.heaters[i].lastTemp ∧ t.scanner.channel = i.val + 1 ∧
      t.scanner.converting = none ∧ t.rcu = s.rcu ∧ t.biu = s.biu ∧ t.thu.heaters[i].window = s.window ∧
      (valid → t.thu.heaters[i].lastTemp = code.toInt ∧
        (code.toInt < s.window.1 → t.thu.heaters[i].band = .cold) ∧
        (s.window.1 ≤ code.toInt → code.toInt ≤ s.window.2 → t.thu.heaters[i].band = .window) ∧
        (s.window.1 ≤ code.toInt → s.window.2 < code.toInt → code.toInt ≤ s.window.2 + 2 * s.prof.tripMargin →
          t.thu.heaters[i].band = .warm) ∧
        (hot → t.thu.heaters[i].band = .trip)) ∧
      (¬valid → t.thu.heaters[i].lastTemp = s.thu.heaters[i].lastTemp ∧ t.thu.heaters[i].band = .unknown) ∧
      (t.thu.heaters[i].band = .window → t.acu.socketGate[i] = s.acu.socketGate[i]) ∧
      (t.thu.heaters[i].band ≠ .window → t.acu.socketGate[i] = false) ∧
      (t.thu.markScanWarm = (s.thu.markScanWarm ||
        (s.scanner.scan == some .mark && (s.socketState i).powered && t.thu.heaters[i].band == .warm))) ∧
      t.thu.heaters[i].sensorStreak = (if valid ∨ s.socketState i = .excluded ∨ s.socketState i = .failed then 0
        else min 255 (streak + 1)) ∧
      (counts → streak = 0 → s.acu.history.length < 48 →
        t.acu.history = s.acu.history ++
          [{ finding := .sensor code, final := false, socket := some i, phase := s.rcu.phase
             round := s.biu.roundNumber, credit := some (s.acu.records[i].creditAt s.rcu.phase) }]) ∧
      (¬(counts ∧ streak = 0) → ¬(powered ∧ hot ∧ s.thu.heaters[i].tripStreak ≠ 0) → t.acu.history = s.acu.history) ∧
      (¬(powered ∧ hot) → t.thu.heaters[i].tripStreak = 0 ∧ t.socketState i = s.socketState i ∧
        t.thu.heaters[i].onTime = s.thu.heaters[i].onTime ∧ t.thu.heaters[i].phase = s.thu.heaters[i].phase ∧
        t.rlu = s.rlu ∧ t.bdu = s.bdu) ∧
      (powered → hot → t.heaterLine i = false ∧ t.thu.heaters[i].onTime = 0 ∧
        (s.thu.heaters[i].tripStreak = 0 →
          t.thu.heaters[i].tripStreak = 1 ∧ t.socketState i = s.socketState i ∧ t.rlu = s.rlu) ∧
        (s.thu.heaters[i].tripStreak ≠ 0 →
          t.thu.heaters[i].tripStreak = 0 ∧ t.socketState i = .failed ∧ t.rlu.sockets[i] = SocketPower.initial ∧
          t.acu.records[i].failure =
            some { kind := .thermal, phase := s.rcu.phase, credit := s.acu.records[i].creditAt s.rcu.phase } ∧
          (s.acu.history.length < 48 → t.acu.history = s.acu.history ++
            [{ finding := .thermal code.toInt, final := true, socket := some i, phase := s.rcu.phase
               round := s.biu.roundNumber, credit := some (s.acu.records[i].creditAt s.rcu.phase) }])))

/-- The half-round scan is requested only if the mark scan found a powered WARM socket (R94); a request while a scan is in
progress is held, and merges with a held one (R81). That the finding is used up, and that a held mark scan with which the
request merges stays the mark's, is the model's choice (log entries 29 and 17). The completion of a scan, with channel 15
converted (R81, R99, R109): the on-time of every heating-eligible socket follows its band, and a WARM, TRIP or UNKNOWN one is
forced off: its heater is off and out of the wait queue, and a token it returned goes to a pending release, then to the
waiting heaters in their order (R100, R104). Every record takes its heater's on-time, and a held scan begins. A WINDOW
reading is judged against the middle of the window it was classed against (R96, R99; log entry 15). -/
def Obligations.ScansAreRequestedAndCompleted : Prop :=
  (∀ s : State, s.running = true →
    (s.thu.markScanWarm = false → exec .halfRoundScan s = .next s) ∧
    (s.thu.markScanWarm = true → s.scanner.scan = none →
      exec .halfRoundScan s = .next { s with thu := { s.thu with markScanWarm := false }
                                             scanner := { s.scanner with scan := some .half, channel := 0 } }) ∧
    (s.thu.markScanWarm = true → s.scanner.scan ≠ none →
      exec .halfRoundScan s = .next { s with
        thu := { s.thu with markScanWarm := false }
        scanner := { s.scanner with held := if s.scanner.held = none then some .half else s.scanner.held } })) ∧
  (∀ s : State, s.running = true → s.scanner.scan ≠ none → s.scanner.channel = 16 →
    let forced := fun i : Socket => s.eligible i && (s.thu.heaters[i].band == .warm || s.thu.heaters[i].band == .trip ||
      s.thu.heaters[i].band == .unknown)
    let returned : Prop := s.thu.releasePending = true ∧ ∃ i : Socket, forced i = true ∧ s.thu.heaters[i].phase = .on
    ∃ t, exec .scanCompletion s = .next t ∧ t.scanner = { s.scanner with scan := s.scanner.held, channel := 0, held := none } ∧
      t.rcu = s.rcu ∧ t.biu = s.biu ∧ t.rlu = s.rlu ∧
      (∀ i : Socket, t.acu.records[i] = { s.acu.records[i] with onTime := t.thu.heaters[i].onTime } ∧
        (s.eligible i = false → t.thu.heaters[i].onTime = s.thu.heaters[i].onTime) ∧
        (s.eligible i = true →
          (s.thu.heaters[i].band = .cold →
            t.thu.heaters[i].onTime = min (s.thu.heaters[i].onTime + 2 * s.prof.heaterStep) s.prof.heaterPeriod) ∧
          (s.thu.heaters[i].band = .window → 2 * s.thu.heaters[i].lastTemp < s.thu.heaters[i].window.1 + s.thu.heaters[i].window.2 →
            t.thu.heaters[i].onTime = min (s.thu.heaters[i].onTime + s.prof.heaterStep) s.prof.heaterPeriod) ∧
          (s.thu.heaters[i].band = .window → s.thu.heaters[i].window.1 + s.thu.heaters[i].window.2 ≤ 2 * s.thu.heaters[i].lastTemp →
            t.thu.heaters[i].onTime = min (s.thu.heaters[i].onTime - s.prof.heaterStep) s.prof.heaterPeriod)) ∧
        (forced i = true → t.thu.heaters[i].onTime = 0 ∧ t.thu.heaters[i].inForce = 0)) ∧
      (s.queueMatches →
        (∀ i : Socket, forced i = true → t.heaterLine i = false ∧ i ∉ t.thu.waitQueue ∧
          t.thu.heaters[i].phase = (if s.thu.heaters[i].phase = .on ∨ s.thu.heaters[i].phase = .waiting then .offTime
            else s.thu.heaters[i].phase)) ∧
        (∃ served : List Socket,
          s.thu.waitQueue.filter (fun i => !forced i) = served ++ t.thu.waitQueue ∧
          ∀ i : Socket, forced i = false →
            (i ∈ served → t.thu.heaters[i].phase = .on ∧
              t.thu.heaters[i].onLeft = some (msTicks s.thu.heaters[i].inForce)) ∧
            (i ∉ served → t.thu.heaters[i].phase = s.thu.heaters[i].phase ∧
              t.thu.heaters[i].onLeft = s.thu.heaters[i].onLeft))) ∧
      ((returned → t.thu.tokens = s.thu.tokens - 1 ∧ t.thu.releasePending = false ∧
          t.bdu = { s.bdu with ownHeld := s.bdu.ownHeld - s.prof.nominal }) ∧
        (¬returned → t.thu.tokens = s.thu.tokens ∧ t.thu.releasePending = s.thu.releasePending ∧ t.bdu = s.bdu)))

/-- A period start of a heater that is neither ON nor WAITING, while a schedule runs (R102): the on-time comes into force;
at 0 the heater stays off, with a token free it is ON, and with none it joins the tail of the wait queue. Of one that is ON or
WAITING its period ends first: an ON heater returns its token as at the due end of its on-phase, a WAITING one leaves the
queue, and the next period starts at once (R102, R104). The due end of
an on-phase returns the token (R102, R104): to a pending release, else to the head of the wait queue, else it is free. -/
def Obligations.HeatersTakeAndReturnTokens : Prop :=
  ∀ (s : State) (i : Socket),
    let h := s.thu.heaters[i]
    let next := some (msTicks s.prof.heaterPeriod)
    let off := s.thu.heaters.set i { h with phase := .offTime, onLeft := none }
    (s.thu.anchor ≠ none → h.phase ≠ .on → h.phase ≠ .waiting →
      (h.onTime = 0 →
        exec (.heaterPeriodStart i) s =
          .next { s with
            thu := { s.thu with
              heaters := s.thu.heaters.set i
                { h with inForce := 0, nextStart := next, phase := .offTime, onLeft := none } } }) ∧
      (h.onTime ≠ 0 → s.thu.onCount < s.thu.tokens →
        exec (.heaterPeriodStart i) s =
          .next { s with
            thu := { s.thu with
              heaters := s.thu.heaters.set i
                { h with inForce := h.onTime, nextStart := next, phase := .on, onLeft := some (msTicks h.onTime) } } }) ∧
      (h.onTime ≠ 0 → s.thu.tokens ≤ s.thu.onCount →
        exec (.heaterPeriodStart i) s =
          .next { s with
            thu := { s.thu with
              heaters := s.thu.heaters.set i
                { h with inForce := h.onTime, nextStart := next, phase := .waiting, onLeft := none }
              waitQueue := s.thu.waitQueue ++ [i] } })) ∧
    (s.thu.anchor ≠ none → h.phase = .on → i ∉ s.thu.waitQueue →
      ∃ m, exec (.heaterOnEnd i) s = .next m ∧ m.thu.heaters[i] = { h with phase := .offTime, onLeft := none } ∧
        m.thu.anchor = s.thu.anchor ∧ exec (.heaterPeriodStart i) s = exec (.heaterPeriodStart i) m) ∧
    (s.thu.anchor ≠ none → h.phase = .waiting →
      let left : State := { s with thu := { s.thu with heaters := off, waitQueue := s.thu.waitQueue.filter (· != i) } }
      exec (.heaterPeriodStart i) s = exec (.heaterPeriodStart i) left) ∧
    (h.phase = .on →
      (s.thu.releasePending = true →
        exec (.heaterOnEnd i) s =
          .next { s with
            thu := { s.thu with heaters := off, tokens := s.thu.tokens - 1, releasePending := false }
            bdu := { s.bdu with ownHeld := s.bdu.ownHeld - s.prof.nominal } }) ∧
      (s.thu.releasePending = false → s.thu.waitQueue = [] →
        exec (.heaterOnEnd i) s = .next { s with thu := { s.thu with heaters := off } }) ∧
      (∀ (j : Socket) (rest : List Socket), s.thu.releasePending = false → s.thu.waitQueue = j :: rest → j ≠ i →
        exec (.heaterOnEnd i) s =
          .next { s with
            thu := { s.thu with
              heaters := off.set j
                { s.thu.heaters[j] with phase := .on, onLeft := some (msTicks s.thu.heaters[j].inForce) }
              waitQueue := rest } }))

/-- The heaters and the gates at a mark. That the on-times are dropped first, then the tokens checked, then the anchor set with
heater 0's start within that work, is the model's order (log entry 7). A socket is heating-eligible (R99) in BRINGUP, RUNNING,
TRANSITION, HELD and WINDDOWN before the power-down, with the phase's heater enable on, while SETTLED or RUNNING. In ACTIVE a socket that is not heating-eligible has no
on-time (R99); the token count
check compares the tokens with the smaller of the max tokens and the eligible sockets with an on-time, row by row (R105); and a
mark that enters BRINGUP, RUNNING, TRANSITION or HELD sets a new anchor (R101): every period ends, a token returned under a
pending release is released, and heater i starts i sixteenths of a period later, heater 0 at once. The gates of the new round
(R138 to R140). -/
def Obligations.MarkSetsTokensAnchorAndGates : Prop :=
  (∀ (s : State) (i : Socket), s.eligible i = true ↔
    ((s.rcu.state = .active ∧ (s.rcu.sub = some .bringUp ∨ s.rcu.sub = some .running ∨ s.rcu.sub = some .transition ∨
        s.rcu.sub = some .held)) ∨ (s.rcu.state = .windDown ∧ s.rcu.poweringDown = false)) ∧
    (∃ e, s.rcu.entry s.rcu.phase = some e ∧ e.heater = true) ∧
    (s.socketState i = .settled ∨ s.socketState i = .running)) ∧
  (∀ s : State,
    let wanted := min s.prof.maxTokens
      (allSockets.filter (fun i => s.eligible i && decide (s.thu.heaters[i].onTime ≠ 0))).length
    let unasked : Bdu := { s.bdu with queue := s.bdu.queue.filter (· != .heater) }
    (s.thu.tokens < wanted → s.tokenCheck = { s with
      thu := { s.thu with releasePending := false }
      bdu := { s.bdu with queue := if .heater ∈ s.bdu.queue then s.bdu.queue else s.bdu.queue ++ [.heater] } }) ∧
    (s.thu.tokens = wanted → s.tokenCheck = { s with thu := { s.thu with releasePending := false }, bdu := unasked }) ∧
    (wanted < s.thu.tokens → s.thu.releasePending = true → s.tokenCheck = { s with bdu := unasked }) ∧
    (wanted < s.thu.tokens → s.thu.releasePending = false → s.thu.onCount < s.thu.tokens →
      s.tokenCheck = { s with thu := { s.thu with tokens := s.thu.tokens - 1, releasePending := false }
                              bdu := { unasked with ownHeld := s.bdu.ownHeld - s.prof.nominal } }) ∧
    (wanted < s.thu.tokens → s.thu.releasePending = false → s.thu.tokens ≤ s.thu.onCount →
      s.tokenCheck = { s with thu := { s.thu with releasePending := true }, bdu := unasked })) ∧
  (∀ (s : State) (before : Option SubState),
    (s.rcu.state ≠ .active → s.heatMark before = s) ∧
    (s.rcu.state = .active →
      let checked := s.dropIneligible.tokenCheck
      (∀ i : Socket, s.dropIneligible.thu.heaters[i] = { s.thu.heaters[i] with
        onTime := if s.eligible i then s.thu.heaters[i].onTime else 0 }) ∧
      ((s.rcu.sub = before ∨ s.rcu.sub = some .recovering ∨ s.rcu.sub = none) → s.heatMark before = checked) ∧
      (s.rcu.sub ≠ before → s.rcu.sub ≠ some .recovering → s.rcu.sub ≠ none → s.heatMark before = checked.setAnchor))) ∧
  (∀ s : State,
    let t := s.setAnchor
    let returned : Prop := s.thu.releasePending = true ∧ s.thu.onCount ≠ 0
    t.thu.anchor = some s.biu.roundNumber ∧
    (∀ i : Socket, i ≠ 0 → t.thu.heaters[i] = { s.thu.heaters[i] with
      phase := .stopped, onLeft := none, nextStart := some (usTicks (i.val * s.prof.heaterPeriod * 1000 / 16)) }) ∧
    t.thu.heaters[0].nextStart = some (msTicks s.prof.heaterPeriod) ∧
    t.thu.heaters[0].inForce = s.thu.heaters[0].onTime ∧ t.thu.heaters[0].onTime = s.thu.heaters[0].onTime ∧
    (s.thu.heaters[0].onTime = 0 → t.thu.heaters[0].phase = .offTime ∧ t.thu.waitQueue = []) ∧
    (s.thu.heaters[0].onTime ≠ 0 → 0 < t.thu.tokens → t.thu.heaters[0].phase = .on ∧ t.thu.waitQueue = [] ∧
      t.thu.heaters[0].onLeft = some (msTicks s.thu.heaters[0].onTime)) ∧
    (s.thu.heaters[0].onTime ≠ 0 → t.thu.tokens = 0 → t.thu.heaters[0].phase = .waiting ∧ t.thu.waitQueue = [0]) ∧
    (returned → t.thu.tokens = s.thu.tokens - 1 ∧ t.thu.releasePending = false ∧
      t.bdu = { s.bdu with ownHeld := s.bdu.ownHeld - s.prof.nominal }) ∧
    (¬returned → t.thu.tokens = s.thu.tokens ∧ t.thu.releasePending = s.thu.releasePending ∧ t.bdu = s.bdu)) ∧
  (∀ s : State,
    let t := s.openGates
    (t.acu.stationGate = true ↔ s.rcu.state = .active ∧ s.rcu.sub = some .running ∧ s.ptu.engine ≠ .stopped) ∧
    ∀ i : Socket, (t.acu.socketGate[i] = true ↔ s.socketState i = .running) ∧
      t.acu.powered[i] = s.rlu.sockets[i].closed)

/-! ### Passes -/

/-- The end of a pass. The ninth law (R118, R122): the end of a checked pass adds exactly one to the pass count or the mismatch
count of each member that is RUNNING and nothing to any other; the end of a re-entry pass adds nothing. A match sets the mismatch streak to 0 and a mismatch adds 1 to
it; a streak at the threshold fails the socket as FUNCTIONAL, its switch open, its allowance released and its heater off, and
below it the first mismatch of the phase sets the soft flag; each writes one entry while there is room, in ascending order of
the sockets (R122, R123, R155, R156). Then (R111, R115, R117
to R120, R124, R139), with no stop pending, the pass index rises, the polarity follows it, SETTLED sockets rejoin and the
membership set is the RUNNING sockets; the ending overflow raises DCLK as the first vector clock of the new pass, drives the
loop's first vector in the new polarity and writes its compare flag, and the player stands at what is left of that vector, or
at the next one (R114 to R116, R118 step 3); under a pending stop the engine is STOPPED, with DCLK low, DRV at the idle value, no
member and the station gate closed. A finish request makes a playing engine STOPPING, and its stop is complete at once when the
engine is STATIC or STOPPED (R124); in a WINDDOWN with cause COMPLETE the completion starts the power-down (R49, R68): the
holding sockets are off, and the first rail in the order C, B, A that is not OFF is FALLING. -/
def Obligations.PassEndChecksAndGoesOn : Prop :=
  (∀ s : State, s.rcu.state = .windDown → s.rcu.poweringDown = false →
    s.windsDown s.stopComplete ∧ s.stopComplete.rcu.endCause = s.rcu.endCause ∧
    ∀ i : Socket, s.stopComplete.socketState i =
      if (s.socketState i).holds ∨ s.socketState i = .parked then .off else s.socketState i) ∧
  (∀ s : State,
    (s.ptu.engine = .playing →
      s.requestFinish = { s with ptu := { s.ptu with engine := .stopping, finishPending := true } }) ∧
    (s.ptu.engine = .static → ∃ u : State, s.requestFinish = u.stopComplete ∧ u.ptu.engine = .stopped ∧
      u.driveLines = s.prof.idleDrive ∧ u.rcu = s.rcu ∧ u.bdu = s.bdu ∧ u.rlu = s.rlu ∧ u.thu = s.thu) ∧
    (s.ptu.engine = .stopping → s.requestFinish = s) ∧ (s.ptu.engine = .stopped → s.requestFinish = s.stopComplete)) ∧
  ∀ s : State, (s.ptu.engine = .playing ∨ s.ptu.engine = .stopping) →
    let mismatch := fun i : Socket => s.ptu.reentryLeft == 0 && s.ptu.members[i] && s.socketState i == .running &&
      s.ptu.sigs[i] != s.ptu.expected
    let final := fun i : Socket => decide (s.prof.functionalThreshold ≤ s.acu.records[i].streak + 1)
    let entry := fun i : Socket =>
      if mismatch i && (final i || !s.acu.records[i].soft) then
        some ({ finding := if final i then .functional s.ptu.sigs[i] s.ptu.inverted else .soft s.ptu.sigs[i] s.ptu.inverted
                final := final i, socket := some i, phase := s.rcu.phase, round := s.biu.roundNumber
                credit := some (s.acu.records[i].creditAt s.rcu.phase) } : Entry)
      else none
    let freed := ((allSockets.filter (fun i => mismatch i && final i)).map
      (fun i => s.rlu.sockets[i].allowance)).sum
    ∃ t, exec .passEnd s = .next t ∧
      (s.acu.history.length ≤ 48 → t.acu.history = (s.acu.history ++ allSockets.filterMap entry).take 48) ∧
      (s.ptu.finishPending = false → s.thu.releasePending = false →
        t.bdu = { s.bdu with ownHeld := s.bdu.ownHeld - freed }) ∧
      (∀ i : Socket,
        let r := s.acu.records[i]
        let u := t.acu.records[i]
        let checked : Prop := s.ptu.reentryLeft = 0 ∧ s.ptu.members[i] = true ∧ s.socketState i = .running
        (checked → s.ptu.sigs[i] = s.ptu.expected → u.streak = 0 ∧ u.soft = r.soft) ∧
        (mismatch i = true → u.streak = r.streak + 1 ∧
          (final i = true → u.state = .failed ∧ u.soft = r.soft ∧ t.rlu.sockets[i] = SocketPower.initial ∧
            t.thu.heaters[i].onTime = 0 ∧ (s.queueMatches → t.heaterLine i = false) ∧ t.failLine = true ∧
            u.failure = some { kind := .functional, phase := s.rcu.phase, credit := r.creditAt s.rcu.phase }) ∧
          (final i = false → u.state ≠ .failed ∧ u.soft = true)) ∧
        (¬checked → u.streak = r.streak ∧ u.soft = r.soft) ∧
        (checked → s.ptu.sigs[i] = s.ptu.expected →
          u.passCount = r.passCount + 1 ∧ u.mismatchCount = r.mismatchCount) ∧
        (checked → s.ptu.sigs[i] ≠ s.ptu.expected →
          u.passCount = r.passCount ∧ u.mismatchCount = r.mismatchCount + 1) ∧
        (¬checked → u.passCount = r.passCount ∧ u.mismatchCount = r.mismatchCount)) ∧
      (s.ptu.engine = .playing → s.ptu.finishPending = false →
        t.ptu.engine = .playing ∧ t.ptu.passIndex = s.ptu.passIndex + 1 ∧
        t.ptu.inverted =
          (match s.ptu.sequence with
          | .none => false
          | .alternate => decide ((s.ptu.passIndex + 1).toNat % 2 = 1)
          | .pairs => decide (2 ≤ (s.ptu.passIndex + 1).toNat % 4)) ∧
        t.ptu.reentryLeft = s.ptu.reentryLeft - 1 ∧ t.rcu = s.rcu ∧ t.biu = s.biu ∧
        (∀ (l : Loop) (v : PatternVector), s.ptu.loop = some l → s.prof.vectors[l.first]? = some v → 1 ≤ v.clocks →
          t.ptu = { s.ptu with
            passIndex := t.ptu.passIndex, reentryLeft := t.ptu.reentryLeft, inverted := t.ptu.inverted
            sigs := t.ptu.sigs, members := t.ptu.members, dclk := true
            drv := if t.ptu.inverted then ~~~v.drive else v.drive
            align := (s.ptu.align ++ [v.compare]).tail, strobe := (s.ptu.align ++ [v.compare]).headD false
            vector := t.ptu.vector, clocksLeft := t.ptu.clocksLeft, drainLeft := l.latency } ∧
          (v.clocks ≠ 1 → t.ptu.vector = l.first ∧ t.ptu.clocksLeft = v.clocks - 1) ∧
          (v.clocks = 1 → 1 < l.count → t.ptu.vector = l.first + 1 ∧
            ∀ w : PatternVector, s.prof.vectors[l.first + 1]? = some w → t.ptu.clocksLeft = w.clocks) ∧
          (v.clocks = 1 → l.count ≤ 1 → t.ptu.vector = l.first ∧ t.ptu.clocksLeft = 0)) ∧
        ∀ i : Socket, t.ptu.sigs[i] = 0xFFFF ∧ (t.ptu.members[i] = true ↔ t.socketState i = .running) ∧
          t.socketState i ≠ .settled ∧ (s.socketState i = .settled → t.socketState i = .running)) ∧
      (s.ptu.finishPending = true →
        t.ptu.engine = .stopped ∧ t.clockLine = false ∧ t.driveLines = s.prof.idleDrive ∧
        t.acu.stationGate = false ∧ (∀ i : Socket, t.ptu.members[i] = false) ∧
        (s.rcu.state = .windDown → s.rcu.poweringDown = false → s.thu.onCount ≤ s.thu.tokens → s.windsDown t))

/-- A start request (R112, R113, R115 to R117, R119, R121, R126, R127). Of a STOPPING engine: the pending stop is cleared and it
plays on, nothing else moving. Of any other: for a STATIC phase the static value is driven, and for a loop the accumulator takes
the slot times 2^19, the queue is preloaded with the latency's clear flags, the pass index is 0 with a TRUE pass, the re-entry
passes are those named, and pass 0 begins at the loop's first vector; either way SETTLED sockets become RUNNING. The end of
BRINGUP names none, and the return from HELD names the profile's count (R32, R39). -/
def Obligations.PatternStartsAtTheMark : Prop :=
  (∀ (s : State) (n : Nat),
    (s.ptu.engine = .stopping →
      s.requestStart n = { s with ptu := { s.ptu with engine := .playing, finishPending := false } }) ∧
    (∀ e, s.ptu.engine ≠ .stopping → s.rcu.entry s.rcu.phase = some e →
      let t := s.requestStart n
      t.rcu = s.rcu ∧ t.biu = s.biu ∧ t.bdu = s.bdu ∧ t.rlu = s.rlu ∧ t.thu = s.thu ∧
      (∀ i : Socket, t.acu.records[i] =
        { s.acu.records[i] with state := if s.socketState i = .settled then .running else s.socketState i }) ∧
      (e.pattern = .static → t.ptu.engine = .static ∧ t.driveLines = e.staticDrive ∧ t.clockLine = false) ∧
      (∀ (k : Nat) (l : Loop), e.pattern = .loop k → s.prof.loops[k]? = some l →
        t.ptu.engine = .playing ∧ t.ptu.loop = some l ∧ t.ptu.clockWord = e.clockWord ∧ t.ptu.sequence = e.sequence ∧
        t.ptu.acc = BitVec.ofNat 24 (s.slot.val * 2 ^ 19) ∧ t.clockLine = false ∧ t.ptu.passIndex = 0 ∧
        t.ptu.reentryLeft = n ∧ t.ptu.inverted = false ∧ t.ptu.align = List.replicate l.latency false ∧
        t.ptu.finishPending = false ∧ t.ptu.vector = l.first ∧ t.ptu.drainLeft = l.latency ∧
        (∀ v, s.prof.vectors[l.first]? = some v → t.ptu.clocksLeft = v.clocks) ∧
        ∀ i : Socket, t.ptu.sigs[i] = 0xFFFF ∧ (t.ptu.members[i] = true ↔ t.socketState i = .running)))) ∧
  (∀ (s : State) (clash : Bool), s.rcu.state = .active →
    let run : State := { s with rcu := { s.rcu with sub := some .running, remembered := none } }
    (s.rcu.sub = some .bringUp → s.railsUp = true → (∀ i : Socket, s.socketState i ≠ .powering) →
      s.runMark false clash = run.requestStart 0) ∧
    (s.rcu.sub = some .held → s.rcu.remembered = some .running →
      s.runMark false clash = run.requestStart s.prof.reentry))

/-! ### Run control and the budget at a mark -/

/-- START takes effect (R31, R137): the run begins at the highest phase of the ACTIVE same-plan peers heard, with the late
mark for it, or at phase 0 with none; credit lists, the count and the end cause are cleared, and the needs placed. -/
def Obligations.StartSetsUpTheRun : Prop :=
  ∀ (s : State) (hold : Bool), s.rcu.state = .idle → s.rcu.startPending = true → s.rcu.planComplete = true →
    s.bdu.queue = [] →
    let t := s.runMark hold false
    let joined := fun q : Nat => ∃ (k : Station) (r : StatusReport), s.isOwn k = false ∧ s.biu.rxStatus[k] = some r ∧
      r.stateCode = 1 ∧ r.planCode = s.rcu.planCode ∧ s.rcu.planCode ≠ 0 ∧ r.rackCode = s.ldr.rackCode ∧ r.phase = q
    t.rcu.state = .active ∧ t.rcu.startPending = false ∧ t.rcu.intCount = 0 ∧ t.rcu.endCause = none ∧
    ((¬∃ q, joined q) → t.rcu.phase = 0 ∧ t.rcu.lateMark = none) ∧
    (∀ q, joined q → (∀ p, joined p → p ≤ q) → t.rcu.phase = q ∧ t.rcu.lateMark = some q) ∧
    (hold = false → t.rcu.sub = some .bringUp ∧ t.rcu.remembered = none) ∧
    (hold = true → t.rcu.sub = some .held ∧ t.rcu.remembered = some .bringUp) ∧
    t.bdu.queue = .railBase :: (allSockets.filter (fun i => s.socketState i == .off)).map Need.socket ∧
    (∀ i : Socket, t.acu.records[i] =
      { s.acu.records[i] with credit := List.replicate (t.rcu.phase + 1) 0 }) ∧
    (∀ p e, p < s.rcu.planLength → s.rcu.entry p = some e →
      t.target p = (e.minutes * 60000 + (s.prof.period - 1)) / s.prof.period)

/-- Under rack hold a station in RUNNING or BRINGUP enters HELD and remembers where it was, and one in HELD stays; without
it, a HELD station returns to what it remembered (R38, R39). -/
def Obligations.RackHoldHoldsAndReleases : Prop :=
  ∀ (s : State) (clash : Bool), s.rcu.state = .active →
    (s.rcu.sub = some .running →
      (s.runMark true clash).rcu.sub = some .held ∧ (s.runMark true clash).rcu.remembered = some .running ∧
      (s.ptu.engine = .playing → (s.runMark true clash).ptu.engine = .stopping) ∧
      (s.ptu.engine = .static → (s.runMark true clash).ptu.engine = .stopped)) ∧
    (s.rcu.sub = some .bringUp →
      (s.runMark true clash).rcu = { s.rcu with sub := some .held, remembered := some .bringUp }) ∧
    (s.rcu.sub = some .held →
      s.runMark true clash = s ∧
      (s.rcu.remembered = some .bringUp → (s.runMark false clash).rcu.sub = some .bringUp) ∧
      (s.rcu.remembered = some .running → (s.runMark false clash).rcu.sub = some .running) ∧
      (s.runMark false clash).rcu.remembered = none)

/-- The considered peers of R33: LIVE or SILENT, last reported ACTIVE, same-plan (R29), with no different rack code. The
candidate and the target: the highest higher phase of a considered peer heard in the round; else the next
phase when the own vote sent was true and every considered peer at this phase or above was heard at this phase with its
vote true; else the phase itself; and one more when a pending ADVANCE names the candidate. That the own vote sent is the one
fixed at the frame's build, whether or not the frame was then read back whole, and false with no frame built in the round, is
the model's reading (log entry 30). In RUNNING without rack hold a
target within the plan begins the transition toward it, and one at the plan's length winds the run down (R34, R40); a
target above it is taken as the length, the model's choice (log entry 16). -/
def Obligations.AdvanceTargetFollowsTheVotes : Prop :=
  ∀ s : State,
    (∀ k : Station, s.considered k = true ↔ s.isOwn k = false ∧
      (s.biu.peers[k].presence = .live ∨ s.biu.peers[k].presence = .silent) ∧ s.biu.peers[k].report.stateCode = 1 ∧
      s.biu.peers[k].report.planCode = s.rcu.planCode ∧ s.rcu.planCode ≠ 0 ∧ s.biu.peers[k].rackDiffers = false) ∧
    let higher := fun k : Station => s.considered k = true ∧ s.biu.peers[k].presence = .live ∧
      s.rcu.phase < s.biu.peers[k].report.phase
    let agrees := s.rcu.sentVote = true ∧ ∀ k : Station, s.considered k = true →
      s.rcu.phase ≤ s.biu.peers[k].report.phase →
      s.biu.peers[k].presence = .live ∧ s.biu.peers[k].report.phase = s.rcu.phase ∧ s.biu.peers[k].report.vote = true
    (∃ q, (s.advanceTarget = if s.rcu.advance = some q then q + 1 else q) ∧
      ((∃ k, higher k) → (∃ k, higher k ∧ s.biu.peers[k].report.phase = q) ∧
        ∀ k, higher k → s.biu.peers[k].report.phase ≤ q) ∧
      ((¬∃ k, higher k) → agrees → q = s.rcu.phase + 1) ∧
      ((¬∃ k, higher k) → ¬agrees → q = s.rcu.phase)) ∧
    (s.rcu.state = .active → s.rcu.sub = some .running → ∀ clash : Bool,
      let t := s.runMark false clash
      (s.advanceTarget = s.rcu.phase → t = s) ∧
      (s.advanceTarget ≠ s.rcu.phase → s.advanceTarget < s.rcu.planLength →
        t.rcu.state = .active ∧ t.rcu.sub = some .transition ∧ t.rcu.phase = s.rcu.phase ∧
        t.rcu.transit.map Transit.target = some s.advanceTarget) ∧
      (s.advanceTarget ≠ s.rcu.phase → s.rcu.planLength ≤ s.advanceTarget →
        (t.rcu.state = .windDown ∨ t.rcu.state = .done) ∧ t.rcu.endCause = some .complete ∧ t.rcu.sub = none ∧
        t.bdu.queue = [] ∧ t.rcu.phase = s.rcu.phase))

/-- A transition (R40 to R42, R57, R58, R67, R74, R75, R137). When the stop is complete the delta is the base allowance and the
allowances of the sockets that hold one, at the target's level less at the present one. Above 0 a TRANSITION need goes to the
front of the queue; otherwise the retarget starts at once. From its start every holding socket stands at the greater of the two
levels, and the first rail whose level differs is RETARGETING; when none differs the retarget completes, the allowances take
the target's level and the own held the sum of R66 there. The mark after it sets the phase index, lengthens the credit lists,
clears streaks and soft flags, discards an ADVANCE naming the phase left, and enters RUNNING with a start request for the phase
arrived at, no re-entry passes named (R42, R127; what the request does is PatternStartsAtTheMark), or HELD under rack hold,
the pattern left as it is. -/
def Obligations.TransitionFollowsItsDelta : Prop :=
  (∀ (s : State) (target : Nat),
    let old := s.rcu.levelA s.rcu.phase
    let new := s.rcu.levelA target
    s.delta target = ((s.prof.base[new] : Int) - s.prof.base[old]) +
      s.holders * ((s.prof.allowance[new] : Int) - s.prof.allowance[old]) ∧
    (s.rcu.state = .active → s.rcu.sub = some .transition → s.rcu.transit = some { target := target, stage := .stopping } →
      (0 < s.delta target → s.stopComplete = { s with
        rcu := { s.rcu with transit := some { target := target, stage := .granting } }
        bdu := { s.bdu with
          queue := if .transition ∈ s.bdu.queue then s.bdu.queue else .transition :: s.bdu.queue } }) ∧
      (s.delta target ≤ 0 → s.stopComplete = s.startRetarget target))) ∧
  (∀ (s : State) (target : Nat),
    let t := s.startRetarget target
    let same := fun r : Rail => s.rcu.railLevel target r = s.rcu.railLevel s.rcu.phase r
    let both := s.prof.allowance[max (s.rcu.levelA s.rcu.phase) (s.rcu.levelA target)]
    let new := s.prof.allowance[s.rcu.levelA target]
    (∀ r : Rail, ¬same r → (∀ q : Rail, q.ix < r.ix → same q) →
      t.rcu = { s.rcu with transit := some { target := target, stage := .retargeting } } ∧ t.bdu = s.bdu ∧
      t.rlu.rails = s.rlu.rails.set r.ix { state := .retargeting, level := s.rcu.railLevel target r, streak := 0
                                           timer := some (msTicks s.prof.railSettle[r.ix]) } ∧
      ∀ i : Socket, t.rlu.sockets[i] = if (s.socketState i).holds then
        { s.rlu.sockets[i] with allowance := both, threshold := both } else s.rlu.sockets[i]) ∧
    ((∀ r : Rail, same r) →
      t.rcu = { s.rcu with transit := some { target := target, stage := .complete } } ∧ t.rlu.rails = s.rlu.rails ∧
      t.bdu = { s.bdu with ownHeld :=
        s.prof.base[s.rcu.levelA target] + s.holders * new + s.thu.tokens * s.prof.nominal } ∧
      ∀ i : Socket, t.rlu.sockets[i] = if (s.socketState i).holds then
        { s.rlu.sockets[i] with allowance := new, threshold := new } else s.rlu.sockets[i])) ∧
  (∀ (s : State) (target : Nat) (hold clash : Bool), s.rcu.state = .active → s.rcu.sub = some .transition →
    s.rcu.transit = some { target := target, stage := .complete } →
    let t := s.runMark hold clash
    let arrived : State := { s with
      rcu := { s.rcu with phase := target, transit := none
                          advance := if s.rcu.advance = some s.rcu.phase then none else s.rcu.advance }
      acu := { s.acu with records := Vector.ofFn (fun i : Socket => { s.acu.records[i] with
        credit := s.acu.records[i].credit ++ List.replicate (target - s.rcu.phase) 0, streak := 0, soft := false }) } }
    (hold = false →
      t = State.requestStart { arrived with rcu := { arrived.rcu with sub := some .running, remembered := none } } 0) ∧
    (hold = true → t = { arrived with rcu := { arrived.rcu with sub := some .held, remembered := some .running } }) ∧
    t.rcu.phase = target ∧ t.rcu.transit = none ∧
    t.rcu.advance = (if s.rcu.advance = some s.rcu.phase then none else s.rcu.advance) ∧
    (hold = false → t.rcu.sub = some .running) ∧
    (hold = true → t.rcu.sub = some .held ∧ t.rcu.remembered = some .running ∧ t.ptu = s.ptu) ∧
    ∀ i : Socket, t.acu.records[i].credit = s.acu.records[i].credit ++ List.replicate (target - s.rcu.phase) 0 ∧
      t.acu.records[i].streak = 0 ∧ t.acu.records[i].soft = false ∧
      t.acu.records[i].exposure = s.acu.records[i].exposure)

/-- The budget's work at a mark. The table of R52: what each slot counts as held, and which slots are candidates. The grants
(R61): none while the table sum is above the budget; otherwise the visit goes over the station slots in ascending order from the
lowest not below the round number modulo 32, wrapping to slot 2, and grants a candidate exactly when what it asks fits beside
the table sum and what was granted before it; so the table sum with all grants is within the budget. The predictions (R53, R62):
a granted peer's recorded held rises by its ask, and no other. The own grant (R59, R63, the fourth law): it is applied when the
own slot is granted, no frame of a LIVE or SILENT peer was missed, no peer's rack code differs and no round number disagreed;
otherwise the budget's work leaves the own held and the queue as they are. -/
def Obligations.GrantsFitTheBudgetAndTheTrust : Prop :=
  (∀ (s : State) (k : Station),
    let e := s.biu.peers[k]
    (s.isOwn k = true → s.countedHeld k = s.bdu.ownHeld ∧
      s.candidate k = if s.biu.tx = .sentWhole then s.bdu.sentAsked else 0) ∧
    (s.isOwn k = false →
      (e.presence = .live → e.rackDiffers = false → s.countedHeld k = e.report.held ∧ s.candidate k = e.report.asked) ∧
      (e.presence = .live → e.rackDiffers = true →
        s.countedHeld k = e.report.held + e.report.asked ∧ s.candidate k = 0) ∧
      (e.presence = .silent ∨ e.presence = .lost →
        s.countedHeld k = e.report.held + e.report.asked ∧ s.candidate k = 0) ∧
      (e.presence = .absent → s.countedHeld k = 0 ∧ s.candidate k = 0))) ∧
  (∀ (s : State) (round : Word),
    (s.prof.budget < s.tableSum → s.granted round = []) ∧
    (∀ k ∈ s.granted round, 0 < s.candidate k) ∧ (s.granted round).Nodup ∧
    (s.granted round ≠ [] → s.tableSum + ((s.granted round).map s.candidate).sum ≤ s.prof.budget) ∧
    (visitOrder round).length = 30 ∧
    (∀ (n : Nat) (k : Station), (visitOrder round)[n]? = some k →
      stationSlot k = 2 + (max 2 (round.toNat % 32) - 2 + n) % 30) ∧
    (s.tableSum ≤ s.prof.budget → ∀ (before after : List Station) (k : Station),
      visitOrder round = before ++ k :: after →
      (k ∈ s.granted round ↔ 0 < s.candidate k ∧
        s.tableSum + (((s.granted round).filter (fun j => decide (j ∈ before))).map s.candidate).sum + s.candidate k ≤
          s.prof.budget))) ∧
  (∀ (s : State) (f : MarkFacts),
    let own : Prop := ∃ k ∈ s.granted f.round, s.isOwn k = true
    let trusted : Prop := f.missedPeer = false ∧ f.disagreeing = false ∧ s.rackConflict = false
    (∀ k : Station, (s.budgetMark f).biu.peers[k] =
      if k ∈ s.granted f.round ∧ s.isOwn k = false then
        { s.biu.peers[k] with report := { s.biu.peers[k].report with
          held := s.biu.peers[k].report.held + s.biu.peers[k].report.asked } }
      else s.biu.peers[k]) ∧
    (own → trusted → s.budgetMark f = (s.predict (s.granted f.round)).applyGrant) ∧
    (¬own ∨ ¬trusted → (s.budgetMark f).bdu = s.bdu ∧ (s.budgetMark f).rlu = s.rlu ∧ (s.budgetMark f).thu = s.thu))

/-- What an applied grant does with the need asked for (R59). At the head, with its amount at most the asked value, it leaves
the queue and the own held rises by its amount: a RAILBASE need starts rail A, or defers it while bulk is low (R71); a HEATER
need gives a token to the head of the wait queue, or leaves it free (R103, R104, R106); a TRANSITION need starts the retarget
(R41); a SOCKET need closes its switch (R83). No longer at the head, or with an amount above the asked value, it stays and the
whole is released; the last is the model's choice (log entry 34). -/
def Obligations.GrantedNeedIsHandedOn : Prop :=
  ∀ (s : State) (n : Need), s.bdu.sentNeed = some n →
    (s.bdu.queue.head? ≠ some n → s.applyGrant = s) ∧
    (s.bdu.sentAsked < s.amount n → s.applyGrant = s) ∧
    ∀ rest : List Need, s.bdu.queue = n :: rest → s.amount n ≤ s.bdu.sentAsked →
      let paid : State := { s with bdu := { s.bdu with ownHeld := s.bdu.ownHeld + s.amount n, queue := rest } }
      let t := s.applyGrant
      (n = .railBase →
        (s.rlu.bulkLow = true → t = { paid with rlu := { s.rlu with deferred := true } }) ∧
        (s.rlu.bulkLow = false → t = { paid with
          rlu := { s.rlu with
            rails := s.rlu.rails.set 0
              { state := .ramping, level := s.rcu.levelA s.rcu.phase, streak := 0
                timer := some (msTicks s.prof.railSettle[0]) } } })) ∧
      (n = .heater →
        (s.thu.waitQueue = [] → t = { paid with thu := { s.thu with tokens := s.thu.tokens + 1 } }) ∧
        (∀ (j : Socket) (waits : List Socket), s.thu.waitQueue = j :: waits →
          t = { paid with thu := { s.thu with
            tokens := s.thu.tokens + 1, waitQueue := waits
            heaters := s.thu.heaters.set j
              { s.thu.heaters[j] with phase := .on, onLeft := some (msTicks s.thu.heaters[j].inForce) } } })) ∧
      (∀ tr, n = .transition → s.rcu.transit = some tr → t = paid.startRetarget tr.target) ∧
      (∀ i, n = .socket i → s.socketState i = .off ∨ s.socketState i = .parked →
        s.amount n = s.prof.allowance[s.levelInForce] ∧ t = { paid with
          rlu := { s.rlu with
            sockets := s.rlu.sockets.set i
              { closed := true, allowance := s.prof.allowance[s.levelInForce]
                threshold := s.prof.allowance[s.levelInForce], debounce := 0, openStreak := 0
                settle := some (msTicks s.prof.socketSettle), openCheck := none, retryWait := none
                settledNow := false } }
          acu := { s.acu with records := s.acu.records.set i { s.acu.records[i] with state := .powering } } })

/-! ### The failure history -/

/-- An entry is stored at the tail while the list holds fewer than 48 entries, the number of entries rising by 1, and in an
empty list it is the head, without a mark (R155). In a list of 48 it is dropped and the overflow flag alone is set: the event
is taken all the same, a socket FAILED with its failure part, in the failed mask and on FAIL, and an interruption counted and
acted on, both as with an entry stored; the flag stays set under every step that does not clear, TAKE among them, it is bit 6 of the frame's flags, and once TAKE has made room
an entry is stored again (R156). -/
def Obligations.EntryIsStoredAtTheTail : Prop :=
  (∀ (s : State) (e : Entry),
    (s.acu.history.length < 48 →
      (s.writeEntry e).acu.history = s.acu.history ++ [e] ∧
      (s.writeEntry e).acu.history.length = s.acu.history.length + 1 ∧
      (s.acu.history = [] → (s.writeEntry e).acu.history.head? = some e ∧ (s.writeEntry e).acu.shown = false)) ∧
    (s.acu.history.length = 48 → s.writeEntry e = { s with acu := { s.acu with overflow := true } })) ∧
  (∀ s : State, s.acu.history.length = 48 →
    let roomy : State := { s with acu := { s.acu with history := [] } }
    let dropped := fun t : State =>
      { t with acu := { t.acu with history := s.acu.history, overflow := true, shown := s.acu.shown } }
    (∀ (i : Socket) (kind : FailKind) (finding : Finding),
      let t := s.failSocket i kind finding
      t = dropped (roomy.failSocket i kind finding) ∧ t.socketState i = .failed ∧
      t.acu.records[i].failure =
        some { kind := kind, phase := s.rcu.phase, credit := s.acu.records[i].creditAt s.rcu.phase } ∧
      t.failLine = true ∧ bitOf (t.maskOf .failed) i.val = true) ∧
    (∀ cause : IntCause, s.transmits = true → s.interrupt cause = dropped (roomy.interrupt cause)) ∧
    (∀ cause : IntCause, s.rcu.state = .active → s.rcu.sub ≠ some .recovering →
      (s.interrupt cause).rcu.intCount = s.rcu.intCount + 1) ∧
    (s.transmits = true → s.acu.shown = true → ∃ t, exec .cmdTake s = .next t ∧ ∀ e : Entry,
      (t.writeEntry e).acu.history = s.acu.history.tail ++ [e])) ∧
  (∀ s t : State, s.acu.overflow = true → (∀ c ∈ s.pending.head?, c.mayClear = false) → step s = .next t →
    t.acu.overflow = true) ∧
  (∀ s : State, bitOf s.flagsByte 6 = s.acu.overflow)

/-! ### The device laws -/

/-- At reset the laws hold. -/
def Obligations.LawsHoldAtReset : Prop :=
  State.reset.historyBounded ∧ State.reset.creditBounded ∧ State.reset.poolInOrder ∧ State.reset.switchesAgree ∧
  State.reset.Lawful

/-- The laws of the power and the heat, under every command (R57, R66, R82, R99, R103, R135, R154): a switch is closed only
while all three rails are UP or RETARGETING, with the allowance in force in the own held (the second law); from the start of a
run to its power-down the own held is the sum of R66, and it is 0 in RECOVERING and outside ACTIVE and WINDDOWN; an unpowered
socket's heater is off, so a FAILED socket stands with its switch open and its heater off (the seventh law's second part); a
final entry names a FAILED socket, and no two name one socket (the eighth law's second part). Each step keeps them, with the
order of the needs and the rails that carries them. -/
def Obligations.StepKeepsTheLawsOfPowerAndHeat : Prop :=
  (∀ s t : State, s.Lawful → step s = .next t → t.Lawful) ∧
  (∀ s : State, s.Lawful →
    (∀ i : Socket, s.switchLine i = true →
      (∀ r : Rail, s.railState r = .up ∨ s.railState r = .retargeting) ∧ s.bdu.ownHeld = s.heldSum ∧
      s.rlu.sockets[i].allowance = s.prof.allowance[s.levelInForce] ∧ 0 < s.holders) ∧
    (s.rcu.state = .active → s.rcu.sub = some .recovering → s.bdu.ownHeld = 0) ∧
    (s.rcu.state ≠ .active → s.rcu.state ≠ .windDown → s.bdu.ownHeld = 0) ∧
    (s.rcu.state = .active → s.bdu.ownHeld = s.heldSum) ∧
    (∀ i : Socket, s.socketState i = .failed → s.switchLine i = false ∧ s.heaterLine i = false) ∧
    (∀ e ∈ s.acu.history, e.final = true → ∃ i : Socket, e.socket = some i ∧ s.socketState i = .failed) ∧
    (∀ i : Socket, (s.acu.history.filter (fun e => e.final && e.socket == some i)).length ≤ 1))

/-- The eighth law's first part (R149, R154): every step keeps the history at 48 entries at most. -/
def Obligations.StepKeepsTheHistoryBounded : Prop :=
  ∀ s t : State, s.historyBounded → step s = .next t → t.historyBounded

/-- The fifth law (R141): at reset, and kept by every step, each socket's credit in each phase and the sum of its credit
list are within its exposure, and a mark adds to neither once the exposure stands at its maximum. -/
def Obligations.StepKeepsCreditWithinExposure : Prop :=
  State.reset.creditBounded ∧
  (∀ s t : State, s.creditBounded → step s = .next t → t.creditBounded) ∧
  (∀ s : State, s.creditBounded → ∀ (i : Socket) (p : Nat), s.acu.records[i].creditAt p ≤ s.acu.records[i].exposure) ∧
  (∀ (s : State) (hold severe : Bool) (i : Socket), s.acu.records[i].exposure = 4294967295 →
    (s.judgeRound hold severe).acu.records[i] = s.acu.records[i])

/-- The third law's first part (R103, R104): every step keeps the heaters that are on within the tokens, no token idle
beside a waiting heater, and the wait queue in order. -/
def Obligations.StepKeepsThePoolInOrder : Prop :=
  ∀ s t : State, s.poolInOrder → step s = .next t → t.poolInOrder

/-- The seventh law's part on the FAILED state and the failure part (R135): a FAILED socket stays FAILED with its failure part
unchanged under every step whose command does not clear. -/
def Obligations.StepKeepsFailedSockets : Prop :=
  ∀ s t : State, (∀ c ∈ s.pending.head?, c.mayClear = false) → step s = .next t → s.keepsFailed t

/-- The switch column of R82's table with the powered states of R133: under every step whose command does not clear, a switch
stays closed exactly while its socket is POWERING, SETTLED or RUNNING. -/
def Obligations.StepKeepsSwitchesWithTheRecords : Prop :=
  ∀ s t : State, s.switchesAgree → (∀ c ∈ s.pending.head?, c.mayClear = false) → step s = .next t → t.switchesAgree

/-- A station in MUTED or LOADFAIL stays there, with FAULT asserted, until RESET_N is driven low (R25, R26). -/
def Obligations.MutedStationStaysMuted : Prop :=
  ∀ s t : State, (s.rcu.state = .muted ∨ s.rcu.state = .loadFail) → (∀ c ∈ s.pending.head?, c ≠ .pinReset) →
    step s = .next t → t.rcu.state = s.rcu.state ∧ t.faultLine = true
end

