-- ==== Sys2Proof/Laws/Budget.lean ====
section
/-! SUPPORT. The visit of R61 said once: whom it grants, in which order, and how much all of them ask. -/

namespace Sys2Proof.Machine


/-- The granted stations stand in the order of the visit. -/
theorem visit_sublist (asked : Station → Nat) (l : List Station) : ∀ free, (visit asked l free).Sublist l := by
  induction l with
  | nil => intro free; exact List.Sublist.refl _
  | cons k ks ih =>
    intro free; unfold visit; split
    · exact (ih _).cons_cons k
    · exact (ih _).cons k

/-- A granted station asks for more than 0. -/
theorem visit_asks (asked : Station → Nat) (l : List Station) : ∀ free, ∀ k ∈ visit asked l free, 0 < asked k := by
  induction l with
  | nil => intro free k hk; cases hk
  | cons k ks ih =>
    intro free j hj; unfold visit at hj; split at hj
    · rename_i h; rcases List.mem_cons.1 hj with rfl | hj
      · exact h.1
      · exact ih _ _ hj
    · exact ih _ _ hj

/-- All that is granted together fits the free amount. -/
theorem visit_fits (asked : Station → Nat) (l : List Station) : ∀ free, ((visit asked l free).map asked).sum ≤ free := by
  induction l with
  | nil => intro free; simp [visit]
  | cons k ks ih =>
    intro free; unfold visit; split
    · rename_i h; have := ih (free - asked k); simp only [List.map_cons, List.sum_cons]; omega
    · exact ih _

/-- The order of the visit names no station twice. -/
theorem visitOrder_nodup (r : Word) : (visitOrder r).Nodup := by
  unfold visitOrder
  have : (allStations.take (visitStart r) ++ allStations.drop (visitStart r)).Nodup := by
    rw [List.take_append_drop]; exact List.nodup_finRange 30
  exact List.nodup_append_comm.1 this

/-- A station is granted exactly if it asks and fits what the stations granted before it leave. -/
theorem mem_visit_iff (asked : Station → Nat) (before after : List Station) (k : Station) :
    ∀ free, (before ++ k :: after).Nodup →
    (k ∈ visit asked (before ++ k :: after) free ↔
      0 < asked k ∧ (((visit asked (before ++ k :: after) free).filter (fun j => decide (j ∈ before))).map asked).sum + asked k ≤ free) := by
  induction before with
  | nil =>
    intro free hn
    simp only [List.nil_append] at *
    unfold visit
    have hk : ∀ f, k ∉ visit asked after f := fun f h => (List.nodup_cons.1 hn).1 ((visit_sublist _ _ _).subset h)
    split
    · rename_i h; simp [h]
    · rename_i h; simp [hk] ; omega
  | cons b bs ih =>
    intro free hn
    simp only [List.cons_append] at *
    have hn' := (List.nodup_cons.1 hn).2
    have hb := (List.nodup_cons.1 hn).1
    have hkb : k ≠ b := by rintro rfl; exact hb (by simp)
    unfold visit
    have hfil : ∀ f, (visit asked (bs ++ k :: after) f).filter (fun j => decide (j ∈ b :: bs)) = (visit asked (bs ++ k :: after) f).filter (fun j => decide (j ∈ bs)) := by
      intro f; apply List.filter_congr
      intro j hj
      have : j ∈ bs ++ k :: after := (visit_sublist _ _ _).subset hj
      have : j ≠ b := by rintro rfl; exact hb this
      simp [this]
    split
    · rename_i h
      rw [List.mem_cons, ih _ hn', List.filter_cons, hfil]
      simp only [hkb, false_or, List.mem_cons_self, decide_true, if_true, List.map_cons, List.sum_cons]
      omega
    · rw [ih _ hn', hfil]

end Sys2Proof.Machine
end

