-- ==== Sys2Proof/Laws/Clock.lean ====
section
/-! SUPPORT. What the two updates of a tick leave: the reading that is handed over, and the events put behind the queue; and
when the longest load ends. -/

namespace Sys2Proof.Machine

variable (s : State)

/-! ### handed -/

@[simp] theorem State.handed_rcu : s.handed.rcu = s.rcu := rfl
@[simp] theorem State.handed_biu : s.handed.biu = s.biu := rfl
@[simp] theorem State.handed_bdu : s.handed.bdu = s.bdu := rfl
@[simp] theorem State.handed_rlu : s.handed.rlu = s.rlu := rfl
@[simp] theorem State.handed_thu : s.handed.thu = s.thu := rfl
@[simp] theorem State.handed_ptu : s.handed.ptu = s.ptu := rfl
@[simp] theorem State.handed_acu : s.handed.acu = s.acu := rfl
@[simp] theorem State.handed_ldr : s.handed.ldr = s.ldr := rfl
@[simp] theorem State.handed_door : s.handed.door = s.door := rfl
@[simp] theorem State.handed_pending : s.handed.pending = s.pending := rfl
@[simp] theorem State.handed_place : s.handed.scanner.place = s.scanner.place := rfl
@[simp] theorem State.handed_scan : s.handed.scanner.scan = s.scanner.scan := rfl
@[simp] theorem State.handed_channel : s.handed.scanner.channel = s.scanner.channel := rfl
@[simp] theorem State.handed_held : s.handed.scanner.held = s.scanner.held := rfl
@[simp] theorem State.handed_conversions : s.handed.scanner.conversions = s.scanner.conversions := rfl
@[simp] theorem State.handed_converting : s.handed.scanner.converting = none := rfl

/-! ### queueUp -/

@[simp] theorem State.queueUp_rcu (cs : List Instr) : (s.queueUp cs).rcu = s.rcu := rfl
@[simp] theorem State.queueUp_biu (cs : List Instr) : (s.queueUp cs).biu = s.biu := rfl
@[simp] theorem State.queueUp_bdu (cs : List Instr) : (s.queueUp cs).bdu = s.bdu := rfl
@[simp] theorem State.queueUp_rlu (cs : List Instr) : (s.queueUp cs).rlu = s.rlu := rfl
@[simp] theorem State.queueUp_thu (cs : List Instr) : (s.queueUp cs).thu = s.thu := rfl
@[simp] theorem State.queueUp_ptu (cs : List Instr) : (s.queueUp cs).ptu = s.ptu := rfl
@[simp] theorem State.queueUp_acu (cs : List Instr) : (s.queueUp cs).acu = s.acu := rfl
@[simp] theorem State.queueUp_ldr (cs : List Instr) : (s.queueUp cs).ldr = s.ldr := rfl
@[simp] theorem State.queueUp_door (cs : List Instr) : (s.queueUp cs).door = s.door := rfl
@[simp] theorem State.queueUp_scanner (cs : List Instr) : (s.queueUp cs).scanner = s.scanner := rfl
@[simp] theorem State.queueUp_pending (cs : List Instr) : (s.queueUp cs).pending = s.pending ++ cs := rfl
@[simp] theorem State.queueUp_nil : s.queueUp [] = s := by simp [State.queueUp]
@[simp] theorem State.queueUp_append (cs ds : List Instr) : (s.queueUp cs).queueUp ds = s.queueUp (cs ++ ds) := by
  simp [State.queueUp]

/-! ### The end of a load -/

@[simp] theorem loadTicks_eq (n : Nat) : loadTicks n = 32 * (4 + n) := rfl

@[simp] theorem bytesRead_fullMemory : bytesRead fullMemory = 16384 := by decide

theorem State.loadEnds_iff (memory : List Byte) :
    s.loadEnds memory = true ↔ s.rcu.state = .loading ∧ s.ldr.portClock = 32 * (4 + bytesRead memory) := by
  simp [State.loadEnds]

/-- The longest load has not ended: the form in which the statements about a tick give it. -/
theorem State.not_loadEnds_fullMemory (h : s.rcu.state = .loading → s.ldr.portClock ≠ 32 * (4 + 16384)) :
    s.loadEnds fullMemory = false := by
  rw [Bool.eq_false_iff, ne_eq, State.loadEnds_iff, bytesRead_fullMemory]
  exact fun ⟨h1, h2⟩ => h h1 h2

end Sys2Proof.Machine
end

