-- ==== Sys2Proof/Laws/Frames.lean ====
section
/-! SUPPORT. What `showHead` leaves, what becomes of a reply due, where a frame and a build stand in the round, and the rows of the frames that change
nothing. -/

namespace Sys2Proof.Machine

variable (s : State)

/-! ### showHead -/

@[simp] theorem State.showHead_rcu : s.showHead.rcu = s.rcu := rfl
@[simp] theorem State.showHead_biu : s.showHead.biu = s.biu := rfl
@[simp] theorem State.showHead_bdu : s.showHead.bdu = s.bdu := rfl
@[simp] theorem State.showHead_rlu : s.showHead.rlu = s.rlu := rfl
@[simp] theorem State.showHead_scanner : s.showHead.scanner = s.scanner := rfl
@[simp] theorem State.showHead_thu : s.showHead.thu = s.thu := rfl
@[simp] theorem State.showHead_ptu : s.showHead.ptu = s.ptu := rfl
@[simp] theorem State.showHead_ldr : s.showHead.ldr = s.ldr := rfl
@[simp] theorem State.showHead_door : s.showHead.door = s.door := rfl
@[simp] theorem State.showHead_pending : s.showHead.pending = s.pending := rfl
@[simp] theorem State.showHead_records : s.showHead.acu.records = s.acu.records := rfl
@[simp] theorem State.showHead_history : s.showHead.acu.history = s.acu.history := rfl
@[simp] theorem State.showHead_overflow : s.showHead.acu.overflow = s.acu.overflow := rfl
@[simp] theorem State.showHead_reportCode : s.showHead.acu.reportCode = s.acu.reportCode := rfl
@[simp] theorem State.showHead_reportResult : s.showHead.acu.reportResult = s.acu.reportResult := rfl
@[simp] theorem State.showHead_readDue : s.showHead.acu.readDue = s.acu.readDue := rfl
@[simp] theorem State.showHead_stationGate : s.showHead.acu.stationGate = s.acu.stationGate := rfl
@[simp] theorem State.showHead_socketGate : s.showHead.acu.socketGate = s.acu.socketGate := rfl
@[simp] theorem State.showHead_powered : s.showHead.acu.powered = s.acu.powered := rfl
@[simp] theorem State.showHead_shown :
    s.showHead.acu.shown = (s.acu.shown || (s.biu.txShowsHead && !s.acu.history.isEmpty)) := rfl

/-! ### The reply due -/

/-- All that the end of a round does with a reply due (R146, R172). -/
theorem State.loseReply_eq : s.loseReply =
    { s with acu := { s.acu with readDue := if s.rcu.state = .muted then s.acu.readDue else none } } := by
  unfold State.loseReply
  split <;> rfl

/-! ### Places in the round -/

/-- A frame lies within its slot when its first start bit is not before the slot and its end is before the slot's. -/
theorem State.inSlot_iff (slot n : Nat) : s.inSlot slot n = true ↔
    usTicks (s.slotBegin slot) + n * 10 * bitTicks s.rate ≤ s.elapsed ∧ s.elapsed < usTicks (s.slotBegin (slot + 1)) := by
  simp [State.inSlot]

/-- The start of the own slot, on a whole µs of the round timer. -/
theorem State.atSlotStart_iff (h : s.biu.usPhase = 0) :
    s.atSlotStart = true ↔ s.prof.period * 1000 - s.biu.roundTimer = s.slotBegin s.slot.val := by
  have : Config.ticksPerUs = 40 := rfl
  simp only [State.atSlotStart, State.elapsed, h, usTicks, this, beq_iff_eq]
  omega

/-- The own frame is at its end. -/
theorem State.frameEnded_iff : s.frameEnded = true ↔
    (s.biu.tx = .sending ∨ s.biu.tx = .carriedOver) ∧ s.biu.txClock = s.frameTicks := by
  simp [State.frameEnded, State.sends]

/-! ### Rows that change nothing -/

/-- Away from the start of the own slot nothing is built. -/
theorem State.buildFrame_of_not_slotStart (h : s.atSlotStart = false) : s.buildFrame = s := by
  simp [State.buildFrame, h]

/-- Before its last stop bit no frame ends. -/
theorem State.endFrame_of_not_ended (h : s.frameEnded = false) : s.endFrame = s := by
  simp [State.endFrame, h]

/-- A frame that does not lie within its slot changes nothing, where no frame of the slot is marked broken. -/
theorem State.hearFrame_of_outside (slot : Slot) (bytes : List Byte) (broken : s.biu.rxBroken ≠ some slot)
    (h : s.inSlot slot.val (frameLength slot bytes) = false) : s.hearFrame slot bytes = s := by
  simp [State.hearFrame, broken, h]

end Sys2Proof.Machine
end

