-- ==== Sys2Proof/Laws/State.lean ====
section
/-! SUPPORT. One lemma per field and named update of the state: what the update leaves, and what it writes. -/

namespace Sys2Proof.Machine

variable (s : State)


/-! ### modRecord -/

@[simp] theorem State.modRecord_rcu (i : Socket) (f : SocketRecord → SocketRecord) : (s.modRecord i f).rcu = s.rcu := rfl
@[simp] theorem State.modRecord_biu (i : Socket) (f : SocketRecord → SocketRecord) : (s.modRecord i f).biu = s.biu := rfl
@[simp] theorem State.modRecord_bdu (i : Socket) (f : SocketRecord → SocketRecord) : (s.modRecord i f).bdu = s.bdu := rfl
@[simp] theorem State.modRecord_rlu (i : Socket) (f : SocketRecord → SocketRecord) : (s.modRecord i f).rlu = s.rlu := rfl
@[simp] theorem State.modRecord_scanner (i : Socket) (f : SocketRecord → SocketRecord) : (s.modRecord i f).scanner = s.scanner := rfl
@[simp] theorem State.modRecord_thu (i : Socket) (f : SocketRecord → SocketRecord) : (s.modRecord i f).thu = s.thu := rfl
@[simp] theorem State.modRecord_ptu (i : Socket) (f : SocketRecord → SocketRecord) : (s.modRecord i f).ptu = s.ptu := rfl
@[simp] theorem State.modRecord_ldr (i : Socket) (f : SocketRecord → SocketRecord) : (s.modRecord i f).ldr = s.ldr := rfl
@[simp] theorem State.modRecord_door (i : Socket) (f : SocketRecord → SocketRecord) : (s.modRecord i f).door = s.door := rfl
@[simp] theorem State.modRecord_pending (i : Socket) (f : SocketRecord → SocketRecord) : (s.modRecord i f).pending = s.pending := rfl
@[simp] theorem State.modRecord_history (i : Socket) (f : SocketRecord → SocketRecord) : (s.modRecord i f).acu.history = s.acu.history := rfl
@[simp] theorem State.modRecord_overflow (i : Socket) (f : SocketRecord → SocketRecord) : (s.modRecord i f).acu.overflow = s.acu.overflow := rfl
@[simp] theorem State.modRecord_shown (i : Socket) (f : SocketRecord → SocketRecord) : (s.modRecord i f).acu.shown = s.acu.shown := rfl
@[simp] theorem State.modRecord_reportCode (i : Socket) (f : SocketRecord → SocketRecord) : (s.modRecord i f).acu.reportCode = s.acu.reportCode := rfl
@[simp] theorem State.modRecord_reportResult (i : Socket) (f : SocketRecord → SocketRecord) : (s.modRecord i f).acu.reportResult = s.acu.reportResult := rfl
@[simp] theorem State.modRecord_readDue (i : Socket) (f : SocketRecord → SocketRecord) : (s.modRecord i f).acu.readDue = s.acu.readDue := rfl
@[simp] theorem State.modRecord_stationGate (i : Socket) (f : SocketRecord → SocketRecord) : (s.modRecord i f).acu.stationGate = s.acu.stationGate := rfl
@[simp] theorem State.modRecord_socketGate (i : Socket) (f : SocketRecord → SocketRecord) : (s.modRecord i f).acu.socketGate = s.acu.socketGate := rfl
@[simp] theorem State.modRecord_powered (i : Socket) (f : SocketRecord → SocketRecord) : (s.modRecord i f).acu.powered = s.acu.powered := rfl

/-! ### mapRecords -/

@[simp] theorem State.mapRecords_rcu (f : Socket → SocketRecord → SocketRecord) : (s.mapRecords f).rcu = s.rcu := rfl
@[simp] theorem State.mapRecords_biu (f : Socket → SocketRecord → SocketRecord) : (s.mapRecords f).biu = s.biu := rfl
@[simp] theorem State.mapRecords_bdu (f : Socket → SocketRecord → SocketRecord) : (s.mapRecords f).bdu = s.bdu := rfl
@[simp] theorem State.mapRecords_rlu (f : Socket → SocketRecord → SocketRecord) : (s.mapRecords f).rlu = s.rlu := rfl
@[simp] theorem State.mapRecords_scanner (f : Socket → SocketRecord → SocketRecord) : (s.mapRecords f).scanner = s.scanner := rfl
@[simp] theorem State.mapRecords_thu (f : Socket → SocketRecord → SocketRecord) : (s.mapRecords f).thu = s.thu := rfl
@[simp] theorem State.mapRecords_ptu (f : Socket → SocketRecord → SocketRecord) : (s.mapRecords f).ptu = s.ptu := rfl
@[simp] theorem State.mapRecords_ldr (f : Socket → SocketRecord → SocketRecord) : (s.mapRecords f).ldr = s.ldr := rfl
@[simp] theorem State.mapRecords_door (f : Socket → SocketRecord → SocketRecord) : (s.mapRecords f).door = s.door := rfl
@[simp] theorem State.mapRecords_pending (f : Socket → SocketRecord → SocketRecord) : (s.mapRecords f).pending = s.pending := rfl
@[simp] theorem State.mapRecords_history (f : Socket → SocketRecord → SocketRecord) : (s.mapRecords f).acu.history = s.acu.history := rfl
@[simp] theorem State.mapRecords_overflow (f : Socket → SocketRecord → SocketRecord) : (s.mapRecords f).acu.overflow = s.acu.overflow := rfl
@[simp] theorem State.mapRecords_shown (f : Socket → SocketRecord → SocketRecord) : (s.mapRecords f).acu.shown = s.acu.shown := rfl
@[simp] theorem State.mapRecords_reportCode (f : Socket → SocketRecord → SocketRecord) : (s.mapRecords f).acu.reportCode = s.acu.reportCode := rfl
@[simp] theorem State.mapRecords_reportResult (f : Socket → SocketRecord → SocketRecord) : (s.mapRecords f).acu.reportResult = s.acu.reportResult := rfl
@[simp] theorem State.mapRecords_readDue (f : Socket → SocketRecord → SocketRecord) : (s.mapRecords f).acu.readDue = s.acu.readDue := rfl
@[simp] theorem State.mapRecords_stationGate (f : Socket → SocketRecord → SocketRecord) : (s.mapRecords f).acu.stationGate = s.acu.stationGate := rfl
@[simp] theorem State.mapRecords_socketGate (f : Socket → SocketRecord → SocketRecord) : (s.mapRecords f).acu.socketGate = s.acu.socketGate := rfl
@[simp] theorem State.mapRecords_powered (f : Socket → SocketRecord → SocketRecord) : (s.mapRecords f).acu.powered = s.acu.powered := rfl

/-! ### modPower -/

@[simp] theorem State.modPower_rcu (i : Socket) (f : SocketPower → SocketPower) : (s.modPower i f).rcu = s.rcu := rfl
@[simp] theorem State.modPower_biu (i : Socket) (f : SocketPower → SocketPower) : (s.modPower i f).biu = s.biu := rfl
@[simp] theorem State.modPower_bdu (i : Socket) (f : SocketPower → SocketPower) : (s.modPower i f).bdu = s.bdu := rfl
@[simp] theorem State.modPower_scanner (i : Socket) (f : SocketPower → SocketPower) : (s.modPower i f).scanner = s.scanner := rfl
@[simp] theorem State.modPower_thu (i : Socket) (f : SocketPower → SocketPower) : (s.modPower i f).thu = s.thu := rfl
@[simp] theorem State.modPower_ptu (i : Socket) (f : SocketPower → SocketPower) : (s.modPower i f).ptu = s.ptu := rfl
@[simp] theorem State.modPower_acu (i : Socket) (f : SocketPower → SocketPower) : (s.modPower i f).acu = s.acu := rfl
@[simp] theorem State.modPower_ldr (i : Socket) (f : SocketPower → SocketPower) : (s.modPower i f).ldr = s.ldr := rfl
@[simp] theorem State.modPower_door (i : Socket) (f : SocketPower → SocketPower) : (s.modPower i f).door = s.door := rfl
@[simp] theorem State.modPower_pending (i : Socket) (f : SocketPower → SocketPower) : (s.modPower i f).pending = s.pending := rfl
@[simp] theorem State.modPower_rails (i : Socket) (f : SocketPower → SocketPower) : (s.modPower i f).rlu.rails = s.rlu.rails := rfl
@[simp] theorem State.modPower_deferred (i : Socket) (f : SocketPower → SocketPower) : (s.modPower i f).rlu.deferred = s.rlu.deferred := rfl
@[simp] theorem State.modPower_bulkLow (i : Socket) (f : SocketPower → SocketPower) : (s.modPower i f).rlu.bulkLow = s.rlu.bulkLow := rfl
@[simp] theorem State.modPower_lowStreak (i : Socket) (f : SocketPower → SocketPower) : (s.modPower i f).rlu.lowStreak = s.rlu.lowStreak := rfl
@[simp] theorem State.modPower_highStreak (i : Socket) (f : SocketPower → SocketPower) : (s.modPower i f).rlu.highStreak = s.rlu.highStreak := rfl
@[simp] theorem State.modPower_boardStreak (i : Socket) (f : SocketPower → SocketPower) : (s.modPower i f).rlu.boardStreak = s.rlu.boardStreak := rfl

/-! ### mapPower -/

@[simp] theorem State.mapPower_rcu (f : Socket → SocketPower → SocketPower) : (s.mapPower f).rcu = s.rcu := rfl
@[simp] theorem State.mapPower_biu (f : Socket → SocketPower → SocketPower) : (s.mapPower f).biu = s.biu := rfl
@[simp] theorem State.mapPower_bdu (f : Socket → SocketPower → SocketPower) : (s.mapPower f).bdu = s.bdu := rfl
@[simp] theorem State.mapPower_scanner (f : Socket → SocketPower → SocketPower) : (s.mapPower f).scanner = s.scanner := rfl
@[simp] theorem State.mapPower_thu (f : Socket → SocketPower → SocketPower) : (s.mapPower f).thu = s.thu := rfl
@[simp] theorem State.mapPower_ptu (f : Socket → SocketPower → SocketPower) : (s.mapPower f).ptu = s.ptu := rfl
@[simp] theorem State.mapPower_acu (f : Socket → SocketPower → SocketPower) : (s.mapPower f).acu = s.acu := rfl
@[simp] theorem State.mapPower_ldr (f : Socket → SocketPower → SocketPower) : (s.mapPower f).ldr = s.ldr := rfl
@[simp] theorem State.mapPower_door (f : Socket → SocketPower → SocketPower) : (s.mapPower f).door = s.door := rfl
@[simp] theorem State.mapPower_pending (f : Socket → SocketPower → SocketPower) : (s.mapPower f).pending = s.pending := rfl
@[simp] theorem State.mapPower_rails (f : Socket → SocketPower → SocketPower) : (s.mapPower f).rlu.rails = s.rlu.rails := rfl
@[simp] theorem State.mapPower_deferred (f : Socket → SocketPower → SocketPower) : (s.mapPower f).rlu.deferred = s.rlu.deferred := rfl
@[simp] theorem State.mapPower_bulkLow (f : Socket → SocketPower → SocketPower) : (s.mapPower f).rlu.bulkLow = s.rlu.bulkLow := rfl
@[simp] theorem State.mapPower_lowStreak (f : Socket → SocketPower → SocketPower) : (s.mapPower f).rlu.lowStreak = s.rlu.lowStreak := rfl
@[simp] theorem State.mapPower_highStreak (f : Socket → SocketPower → SocketPower) : (s.mapPower f).rlu.highStreak = s.rlu.highStreak := rfl
@[simp] theorem State.mapPower_boardStreak (f : Socket → SocketPower → SocketPower) : (s.mapPower f).rlu.boardStreak = s.rlu.boardStreak := rfl

/-! ### mapRails -/

@[simp] theorem State.mapRails_rcu (f : RailUnit → RailUnit) : (s.mapRails f).rcu = s.rcu := rfl
@[simp] theorem State.mapRails_biu (f : RailUnit → RailUnit) : (s.mapRails f).biu = s.biu := rfl
@[simp] theorem State.mapRails_bdu (f : RailUnit → RailUnit) : (s.mapRails f).bdu = s.bdu := rfl
@[simp] theorem State.mapRails_scanner (f : RailUnit → RailUnit) : (s.mapRails f).scanner = s.scanner := rfl
@[simp] theorem State.mapRails_thu (f : RailUnit → RailUnit) : (s.mapRails f).thu = s.thu := rfl
@[simp] theorem State.mapRails_ptu (f : RailUnit → RailUnit) : (s.mapRails f).ptu = s.ptu := rfl
@[simp] theorem State.mapRails_acu (f : RailUnit → RailUnit) : (s.mapRails f).acu = s.acu := rfl
@[simp] theorem State.mapRails_ldr (f : RailUnit → RailUnit) : (s.mapRails f).ldr = s.ldr := rfl
@[simp] theorem State.mapRails_door (f : RailUnit → RailUnit) : (s.mapRails f).door = s.door := rfl
@[simp] theorem State.mapRails_pending (f : RailUnit → RailUnit) : (s.mapRails f).pending = s.pending := rfl
@[simp] theorem State.mapRails_sockets (f : RailUnit → RailUnit) : (s.mapRails f).rlu.sockets = s.rlu.sockets := rfl
@[simp] theorem State.mapRails_deferred (f : RailUnit → RailUnit) : (s.mapRails f).rlu.deferred = s.rlu.deferred := rfl
@[simp] theorem State.mapRails_bulkLow (f : RailUnit → RailUnit) : (s.mapRails f).rlu.bulkLow = s.rlu.bulkLow := rfl
@[simp] theorem State.mapRails_lowStreak (f : RailUnit → RailUnit) : (s.mapRails f).rlu.lowStreak = s.rlu.lowStreak := rfl
@[simp] theorem State.mapRails_highStreak (f : RailUnit → RailUnit) : (s.mapRails f).rlu.highStreak = s.rlu.highStreak := rfl
@[simp] theorem State.mapRails_boardStreak (f : RailUnit → RailUnit) : (s.mapRails f).rlu.boardStreak = s.rlu.boardStreak := rfl
@[simp] theorem State.mapRails_rails (f : RailUnit → RailUnit) (r : Rail) : (s.mapRails f).rlu.rails[r.ix] = f s.rlu.rails[r.ix] := by
  simp [State.mapRails]

/-! ### modRail -/

@[simp] theorem State.modRail_rcu (r : Rail) (f : RailUnit → RailUnit) : (s.modRail r f).rcu = s.rcu := rfl
@[simp] theorem State.modRail_biu (r : Rail) (f : RailUnit → RailUnit) : (s.modRail r f).biu = s.biu := rfl
@[simp] theorem State.modRail_bdu (r : Rail) (f : RailUnit → RailUnit) : (s.modRail r f).bdu = s.bdu := rfl
@[simp] theorem State.modRail_scanner (r : Rail) (f : RailUnit → RailUnit) : (s.modRail r f).scanner = s.scanner := rfl
@[simp] theorem State.modRail_thu (r : Rail) (f : RailUnit → RailUnit) : (s.modRail r f).thu = s.thu := rfl
@[simp] theorem State.modRail_ptu (r : Rail) (f : RailUnit → RailUnit) : (s.modRail r f).ptu = s.ptu := rfl
@[simp] theorem State.modRail_acu (r : Rail) (f : RailUnit → RailUnit) : (s.modRail r f).acu = s.acu := rfl
@[simp] theorem State.modRail_ldr (r : Rail) (f : RailUnit → RailUnit) : (s.modRail r f).ldr = s.ldr := rfl
@[simp] theorem State.modRail_door (r : Rail) (f : RailUnit → RailUnit) : (s.modRail r f).door = s.door := rfl
@[simp] theorem State.modRail_pending (r : Rail) (f : RailUnit → RailUnit) : (s.modRail r f).pending = s.pending := rfl
@[simp] theorem State.modRail_sockets (r : Rail) (f : RailUnit → RailUnit) : (s.modRail r f).rlu.sockets = s.rlu.sockets := rfl
@[simp] theorem State.modRail_deferred (r : Rail) (f : RailUnit → RailUnit) : (s.modRail r f).rlu.deferred = s.rlu.deferred := rfl
@[simp] theorem State.modRail_bulkLow (r : Rail) (f : RailUnit → RailUnit) : (s.modRail r f).rlu.bulkLow = s.rlu.bulkLow := rfl
@[simp] theorem State.modRail_lowStreak (r : Rail) (f : RailUnit → RailUnit) : (s.modRail r f).rlu.lowStreak = s.rlu.lowStreak := rfl
@[simp] theorem State.modRail_highStreak (r : Rail) (f : RailUnit → RailUnit) : (s.modRail r f).rlu.highStreak = s.rlu.highStreak := rfl
@[simp] theorem State.modRail_boardStreak (r : Rail) (f : RailUnit → RailUnit) : (s.modRail r f).rlu.boardStreak = s.rlu.boardStreak := rfl

/-! ### modHeater -/

@[simp] theorem State.modHeater_rcu (i : Socket) (f : Heater → Heater) : (s.modHeater i f).rcu = s.rcu := rfl
@[simp] theorem State.modHeater_biu (i : Socket) (f : Heater → Heater) : (s.modHeater i f).biu = s.biu := rfl
@[simp] theorem State.modHeater_bdu (i : Socket) (f : Heater → Heater) : (s.modHeater i f).bdu = s.bdu := rfl
@[simp] theorem State.modHeater_rlu (i : Socket) (f : Heater → Heater) : (s.modHeater i f).rlu = s.rlu := rfl
@[simp] theorem State.modHeater_scanner (i : Socket) (f : Heater → Heater) : (s.modHeater i f).scanner = s.scanner := rfl
@[simp] theorem State.modHeater_ptu (i : Socket) (f : Heater → Heater) : (s.modHeater i f).ptu = s.ptu := rfl
@[simp] theorem State.modHeater_acu (i : Socket) (f : Heater → Heater) : (s.modHeater i f).acu = s.acu := rfl
@[simp] theorem State.modHeater_ldr (i : Socket) (f : Heater → Heater) : (s.modHeater i f).ldr = s.ldr := rfl
@[simp] theorem State.modHeater_door (i : Socket) (f : Heater → Heater) : (s.modHeater i f).door = s.door := rfl
@[simp] theorem State.modHeater_pending (i : Socket) (f : Heater → Heater) : (s.modHeater i f).pending = s.pending := rfl
@[simp] theorem State.modHeater_anchor (i : Socket) (f : Heater → Heater) : (s.modHeater i f).thu.anchor = s.thu.anchor := rfl
@[simp] theorem State.modHeater_tokens (i : Socket) (f : Heater → Heater) : (s.modHeater i f).thu.tokens = s.thu.tokens := rfl
@[simp] theorem State.modHeater_releasePending (i : Socket) (f : Heater → Heater) : (s.modHeater i f).thu.releasePending = s.thu.releasePending := rfl
@[simp] theorem State.modHeater_waitQueue (i : Socket) (f : Heater → Heater) : (s.modHeater i f).thu.waitQueue = s.thu.waitQueue := rfl
@[simp] theorem State.modHeater_markScanWarm (i : Socket) (f : Heater → Heater) : (s.modHeater i f).thu.markScanWarm = s.thu.markScanWarm := rfl

/-! ### mapHeaters -/

@[simp] theorem State.mapHeaters_rcu (f : Socket → Heater → Heater) : (s.mapHeaters f).rcu = s.rcu := rfl
@[simp] theorem State.mapHeaters_biu (f : Socket → Heater → Heater) : (s.mapHeaters f).biu = s.biu := rfl
@[simp] theorem State.mapHeaters_bdu (f : Socket → Heater → Heater) : (s.mapHeaters f).bdu = s.bdu := rfl
@[simp] theorem State.mapHeaters_rlu (f : Socket → Heater → Heater) : (s.mapHeaters f).rlu = s.rlu := rfl
@[simp] theorem State.mapHeaters_scanner (f : Socket → Heater → Heater) : (s.mapHeaters f).scanner = s.scanner := rfl
@[simp] theorem State.mapHeaters_ptu (f : Socket → Heater → Heater) : (s.mapHeaters f).ptu = s.ptu := rfl
@[simp] theorem State.mapHeaters_acu (f : Socket → Heater → Heater) : (s.mapHeaters f).acu = s.acu := rfl
@[simp] theorem State.mapHeaters_ldr (f : Socket → Heater → Heater) : (s.mapHeaters f).ldr = s.ldr := rfl
@[simp] theorem State.mapHeaters_door (f : Socket → Heater → Heater) : (s.mapHeaters f).door = s.door := rfl
@[simp] theorem State.mapHeaters_pending (f : Socket → Heater → Heater) : (s.mapHeaters f).pending = s.pending := rfl
@[simp] theorem State.mapHeaters_anchor (f : Socket → Heater → Heater) : (s.mapHeaters f).thu.anchor = s.thu.anchor := rfl
@[simp] theorem State.mapHeaters_tokens (f : Socket → Heater → Heater) : (s.mapHeaters f).thu.tokens = s.thu.tokens := rfl
@[simp] theorem State.mapHeaters_releasePending (f : Socket → Heater → Heater) : (s.mapHeaters f).thu.releasePending = s.thu.releasePending := rfl
@[simp] theorem State.mapHeaters_waitQueue (f : Socket → Heater → Heater) : (s.mapHeaters f).thu.waitQueue = s.thu.waitQueue := rfl
@[simp] theorem State.mapHeaters_markScanWarm (f : Socket → Heater → Heater) : (s.mapHeaters f).thu.markScanWarm = s.thu.markScanWarm := rfl

/-! ### placeNeed -/

@[simp] theorem State.placeNeed_rcu (n : Need) : (s.placeNeed n).rcu = s.rcu := rfl
@[simp] theorem State.placeNeed_biu (n : Need) : (s.placeNeed n).biu = s.biu := rfl
@[simp] theorem State.placeNeed_rlu (n : Need) : (s.placeNeed n).rlu = s.rlu := rfl
@[simp] theorem State.placeNeed_scanner (n : Need) : (s.placeNeed n).scanner = s.scanner := rfl
@[simp] theorem State.placeNeed_thu (n : Need) : (s.placeNeed n).thu = s.thu := rfl
@[simp] theorem State.placeNeed_ptu (n : Need) : (s.placeNeed n).ptu = s.ptu := rfl
@[simp] theorem State.placeNeed_acu (n : Need) : (s.placeNeed n).acu = s.acu := rfl
@[simp] theorem State.placeNeed_ldr (n : Need) : (s.placeNeed n).ldr = s.ldr := rfl
@[simp] theorem State.placeNeed_door (n : Need) : (s.placeNeed n).door = s.door := rfl
@[simp] theorem State.placeNeed_pending (n : Need) : (s.placeNeed n).pending = s.pending := rfl
@[simp] theorem State.placeNeed_ownHeld (n : Need) : (s.placeNeed n).bdu.ownHeld = s.bdu.ownHeld := rfl
@[simp] theorem State.placeNeed_sentHeld (n : Need) : (s.placeNeed n).bdu.sentHeld = s.bdu.sentHeld := rfl
@[simp] theorem State.placeNeed_sentAsked (n : Need) : (s.placeNeed n).bdu.sentAsked = s.bdu.sentAsked := rfl
@[simp] theorem State.placeNeed_sentNeed (n : Need) : (s.placeNeed n).bdu.sentNeed = s.bdu.sentNeed := rfl

/-! ### withdraw -/

@[simp] theorem State.withdraw_rcu (n : Need) : (s.withdraw n).rcu = s.rcu := rfl
@[simp] theorem State.withdraw_biu (n : Need) : (s.withdraw n).biu = s.biu := rfl
@[simp] theorem State.withdraw_rlu (n : Need) : (s.withdraw n).rlu = s.rlu := rfl
@[simp] theorem State.withdraw_scanner (n : Need) : (s.withdraw n).scanner = s.scanner := rfl
@[simp] theorem State.withdraw_thu (n : Need) : (s.withdraw n).thu = s.thu := rfl
@[simp] theorem State.withdraw_ptu (n : Need) : (s.withdraw n).ptu = s.ptu := rfl
@[simp] theorem State.withdraw_acu (n : Need) : (s.withdraw n).acu = s.acu := rfl
@[simp] theorem State.withdraw_ldr (n : Need) : (s.withdraw n).ldr = s.ldr := rfl
@[simp] theorem State.withdraw_door (n : Need) : (s.withdraw n).door = s.door := rfl
@[simp] theorem State.withdraw_pending (n : Need) : (s.withdraw n).pending = s.pending := rfl
@[simp] theorem State.withdraw_ownHeld (n : Need) : (s.withdraw n).bdu.ownHeld = s.bdu.ownHeld := rfl
@[simp] theorem State.withdraw_sentHeld (n : Need) : (s.withdraw n).bdu.sentHeld = s.bdu.sentHeld := rfl
@[simp] theorem State.withdraw_sentAsked (n : Need) : (s.withdraw n).bdu.sentAsked = s.bdu.sentAsked := rfl
@[simp] theorem State.withdraw_sentNeed (n : Need) : (s.withdraw n).bdu.sentNeed = s.bdu.sentNeed := rfl

/-! ### clearQueue -/

@[simp] theorem State.clearQueue_rcu : (s.clearQueue).rcu = s.rcu := rfl
@[simp] theorem State.clearQueue_biu : (s.clearQueue).biu = s.biu := rfl
@[simp] theorem State.clearQueue_rlu : (s.clearQueue).rlu = s.rlu := rfl
@[simp] theorem State.clearQueue_scanner : (s.clearQueue).scanner = s.scanner := rfl
@[simp] theorem State.clearQueue_thu : (s.clearQueue).thu = s.thu := rfl
@[simp] theorem State.clearQueue_ptu : (s.clearQueue).ptu = s.ptu := rfl
@[simp] theorem State.clearQueue_acu : (s.clearQueue).acu = s.acu := rfl
@[simp] theorem State.clearQueue_ldr : (s.clearQueue).ldr = s.ldr := rfl
@[simp] theorem State.clearQueue_door : (s.clearQueue).door = s.door := rfl
@[simp] theorem State.clearQueue_pending : (s.clearQueue).pending = s.pending := rfl
@[simp] theorem State.clearQueue_ownHeld : (s.clearQueue).bdu.ownHeld = s.bdu.ownHeld := rfl
@[simp] theorem State.clearQueue_sentHeld : (s.clearQueue).bdu.sentHeld = s.bdu.sentHeld := rfl
@[simp] theorem State.clearQueue_sentAsked : (s.clearQueue).bdu.sentAsked = s.bdu.sentAsked := rfl
@[simp] theorem State.clearQueue_sentNeed : (s.clearQueue).bdu.sentNeed = s.bdu.sentNeed := rfl

/-! ### release -/

@[simp] theorem State.release_rcu (a : Nat) : (s.release a).rcu = s.rcu := rfl
@[simp] theorem State.release_biu (a : Nat) : (s.release a).biu = s.biu := rfl
@[simp] theorem State.release_rlu (a : Nat) : (s.release a).rlu = s.rlu := rfl
@[simp] theorem State.release_scanner (a : Nat) : (s.release a).scanner = s.scanner := rfl
@[simp] theorem State.release_thu (a : Nat) : (s.release a).thu = s.thu := rfl
@[simp] theorem State.release_ptu (a : Nat) : (s.release a).ptu = s.ptu := rfl
@[simp] theorem State.release_acu (a : Nat) : (s.release a).acu = s.acu := rfl
@[simp] theorem State.release_ldr (a : Nat) : (s.release a).ldr = s.ldr := rfl
@[simp] theorem State.release_door (a : Nat) : (s.release a).door = s.door := rfl
@[simp] theorem State.release_pending (a : Nat) : (s.release a).pending = s.pending := rfl
@[simp] theorem State.release_queue (a : Nat) : (s.release a).bdu.queue = s.bdu.queue := rfl
@[simp] theorem State.release_sentHeld (a : Nat) : (s.release a).bdu.sentHeld = s.bdu.sentHeld := rfl
@[simp] theorem State.release_sentAsked (a : Nat) : (s.release a).bdu.sentAsked = s.bdu.sentAsked := rfl
@[simp] theorem State.release_sentNeed (a : Nat) : (s.release a).bdu.sentNeed = s.bdu.sentNeed := rfl

/-! ### releaseAll -/

@[simp] theorem State.releaseAll_rcu : (s.releaseAll).rcu = s.rcu := rfl
@[simp] theorem State.releaseAll_biu : (s.releaseAll).biu = s.biu := rfl
@[simp] theorem State.releaseAll_rlu : (s.releaseAll).rlu = s.rlu := rfl
@[simp] theorem State.releaseAll_scanner : (s.releaseAll).scanner = s.scanner := rfl
@[simp] theorem State.releaseAll_thu : (s.releaseAll).thu = s.thu := rfl
@[simp] theorem State.releaseAll_ptu : (s.releaseAll).ptu = s.ptu := rfl
@[simp] theorem State.releaseAll_acu : (s.releaseAll).acu = s.acu := rfl
@[simp] theorem State.releaseAll_ldr : (s.releaseAll).ldr = s.ldr := rfl
@[simp] theorem State.releaseAll_door : (s.releaseAll).door = s.door := rfl
@[simp] theorem State.releaseAll_pending : (s.releaseAll).pending = s.pending := rfl
@[simp] theorem State.releaseAll_queue : (s.releaseAll).bdu.queue = s.bdu.queue := rfl
@[simp] theorem State.releaseAll_sentHeld : (s.releaseAll).bdu.sentHeld = s.bdu.sentHeld := rfl
@[simp] theorem State.releaseAll_sentAsked : (s.releaseAll).bdu.sentAsked = s.bdu.sentAsked := rfl
@[simp] theorem State.releaseAll_sentNeed : (s.releaseAll).bdu.sentNeed = s.bdu.sentNeed := rfl

/-! ### report -/

@[simp] theorem State.report_rcu (c : BitVec 4) (r : CmdResult) : (s.report c r).rcu = s.rcu := rfl
@[simp] theorem State.report_biu (c : BitVec 4) (r : CmdResult) : (s.report c r).biu = s.biu := rfl
@[simp] theorem State.report_bdu (c : BitVec 4) (r : CmdResult) : (s.report c r).bdu = s.bdu := rfl
@[simp] theorem State.report_rlu (c : BitVec 4) (r : CmdResult) : (s.report c r).rlu = s.rlu := rfl
@[simp] theorem State.report_scanner (c : BitVec 4) (r : CmdResult) : (s.report c r).scanner = s.scanner := rfl
@[simp] theorem State.report_thu (c : BitVec 4) (r : CmdResult) : (s.report c r).thu = s.thu := rfl
@[simp] theorem State.report_ptu (c : BitVec 4) (r : CmdResult) : (s.report c r).ptu = s.ptu := rfl
@[simp] theorem State.report_ldr (c : BitVec 4) (r : CmdResult) : (s.report c r).ldr = s.ldr := rfl
@[simp] theorem State.report_door (c : BitVec 4) (r : CmdResult) : (s.report c r).door = s.door := rfl
@[simp] theorem State.report_pending (c : BitVec 4) (r : CmdResult) : (s.report c r).pending = s.pending := rfl
@[simp] theorem State.report_history (c : BitVec 4) (r : CmdResult) : (s.report c r).acu.history = s.acu.history := rfl
@[simp] theorem State.report_overflow (c : BitVec 4) (r : CmdResult) : (s.report c r).acu.overflow = s.acu.overflow := rfl
@[simp] theorem State.report_shown (c : BitVec 4) (r : CmdResult) : (s.report c r).acu.shown = s.acu.shown := rfl
@[simp] theorem State.report_readDue (c : BitVec 4) (r : CmdResult) : (s.report c r).acu.readDue = s.acu.readDue := rfl
@[simp] theorem State.report_stationGate (c : BitVec 4) (r : CmdResult) : (s.report c r).acu.stationGate = s.acu.stationGate := rfl
@[simp] theorem State.report_socketGate (c : BitVec 4) (r : CmdResult) : (s.report c r).acu.socketGate = s.acu.socketGate := rfl
@[simp] theorem State.report_powered (c : BitVec 4) (r : CmdResult) : (s.report c r).acu.powered = s.acu.powered := rfl
@[simp] theorem State.report_records (c : BitVec 4) (r : CmdResult) : (s.report c r).acu.records = s.acu.records := rfl

/-! ### The written entry -/

@[simp] theorem State.modRecord_records (i : Socket) (f : SocketRecord → SocketRecord) (j : Socket) :
    (s.modRecord i f).acu.records[j] = if i = j then f s.acu.records[i] else s.acu.records[j] := by
  by_cases h : i = j
  · subst h; simp [State.modRecord]
  · have : (i : Nat) ≠ j := fun e => h (Fin.ext e)
    simp [State.modRecord, h, Vector.getElem_set_ne, this]

@[simp] theorem State.mapRecords_records (f : Socket → SocketRecord → SocketRecord) (j : Socket) :
    (s.mapRecords f).acu.records[j] = f j s.acu.records[j] := by simp [State.mapRecords]

@[simp] theorem State.modPower_sockets (i : Socket) (f : SocketPower → SocketPower) (j : Socket) :
    (s.modPower i f).rlu.sockets[j] = if i = j then f s.rlu.sockets[i] else s.rlu.sockets[j] := by
  by_cases h : i = j
  · subst h; simp [State.modPower]
  · have : (i : Nat) ≠ j := fun e => h (Fin.ext e)
    simp [State.modPower, h, Vector.getElem_set_ne, this]

@[simp] theorem State.mapPower_sockets (f : Socket → SocketPower → SocketPower) (j : Socket) :
    (s.mapPower f).rlu.sockets[j] = f j s.rlu.sockets[j] := by simp [State.mapPower]

@[simp] theorem State.modHeater_heaters (i : Socket) (f : Heater → Heater) (j : Socket) :
    (s.modHeater i f).thu.heaters[j] = if i = j then f s.thu.heaters[i] else s.thu.heaters[j] := by
  by_cases h : i = j
  · subst h; simp [State.modHeater]
  · have : (i : Nat) ≠ j := fun e => h (Fin.ext e)
    simp [State.modHeater, h, Vector.getElem_set_ne, this]

@[simp] theorem State.mapHeaters_heaters (f : Socket → Heater → Heater) (j : Socket) :
    (s.mapHeaters f).thu.heaters[j] = f j s.thu.heaters[j] := by simp [State.mapHeaters]

@[simp] theorem State.modRail_rails (r : Rail) (f : RailUnit → RailUnit) :
    (s.modRail r f).rlu.rails[r.ix] = f s.rlu.rails[r.ix] := by simp [State.modRail]

@[simp] theorem State.modRail_rails_ne (r q : Rail) (f : RailUnit → RailUnit) (h : r.ix ≠ q.ix) :
    (s.modRail r f).rlu.rails[q.ix] = s.rlu.rails[q.ix] := by
  have : (r.ix : Nat) ≠ q.ix := fun e => h (Fin.ext e)
  simp [State.modRail, Vector.getElem_set_ne, this]

/-! ### Written fields -/

@[simp] theorem State.placeNeed_queue (n : Need) : (s.placeNeed n).bdu.queue = place s.bdu.queue n := rfl
@[simp] theorem State.withdraw_queue (n : Need) : (s.withdraw n).bdu.queue = s.bdu.queue.filter (· != n) := rfl
@[simp] theorem State.clearQueue_queue : s.clearQueue.bdu.queue = [] := rfl
@[simp] theorem State.release_ownHeld (a : Nat) : (s.release a).bdu.ownHeld = s.bdu.ownHeld - a := rfl
@[simp] theorem State.releaseAll_ownHeld : s.releaseAll.bdu.ownHeld = 0 := rfl
@[simp] theorem State.report_reportCode (c : BitVec 4) (r : CmdResult) : (s.report c r).acu.reportCode = c := rfl
@[simp] theorem State.report_reportResult (c : BitVec 4) (r : CmdResult) : (s.report c r).acu.reportResult = r := rfl

/-! ### The failure history -/

/-- There is room: the entry joins at the tail (R155). -/
theorem State.writeEntry_room (e : Entry) (h : s.acu.history.length < Config.historyCap) :
    s.writeEntry e = { s with acu := { s.acu with history := s.acu.history ++ [e],
                                                  shown := s.acu.shown && !s.acu.history.isEmpty } } := by
  simp [State.writeEntry, h]

/-- There is no room: the entry is dropped (R156). -/
theorem State.writeEntry_full (e : Entry) (h : ¬ s.acu.history.length < Config.historyCap) :
    s.writeEntry e = { s with acu := { s.acu with overflow := true } } := by
  simp [State.writeEntry, h]

@[simp] theorem State.writeEntry_rcu (e : Entry) : (s.writeEntry e).rcu = s.rcu := by unfold State.writeEntry; split <;> rfl
@[simp] theorem State.writeEntry_biu (e : Entry) : (s.writeEntry e).biu = s.biu := by unfold State.writeEntry; split <;> rfl
@[simp] theorem State.writeEntry_bdu (e : Entry) : (s.writeEntry e).bdu = s.bdu := by unfold State.writeEntry; split <;> rfl
@[simp] theorem State.writeEntry_rlu (e : Entry) : (s.writeEntry e).rlu = s.rlu := by unfold State.writeEntry; split <;> rfl
@[simp] theorem State.writeEntry_scanner (e : Entry) : (s.writeEntry e).scanner = s.scanner := by unfold State.writeEntry; split <;> rfl
@[simp] theorem State.writeEntry_thu (e : Entry) : (s.writeEntry e).thu = s.thu := by unfold State.writeEntry; split <;> rfl
@[simp] theorem State.writeEntry_ptu (e : Entry) : (s.writeEntry e).ptu = s.ptu := by unfold State.writeEntry; split <;> rfl
@[simp] theorem State.writeEntry_ldr (e : Entry) : (s.writeEntry e).ldr = s.ldr := by unfold State.writeEntry; split <;> rfl
@[simp] theorem State.writeEntry_door (e : Entry) : (s.writeEntry e).door = s.door := by unfold State.writeEntry; split <;> rfl
@[simp] theorem State.writeEntry_pending (e : Entry) : (s.writeEntry e).pending = s.pending := by unfold State.writeEntry; split <;> rfl
@[simp] theorem State.writeEntry_records (e : Entry) : (s.writeEntry e).acu.records = s.acu.records := by
  unfold State.writeEntry; split <;> rfl
@[simp] theorem State.writeEntry_reportCode (e : Entry) : (s.writeEntry e).acu.reportCode = s.acu.reportCode := by
  unfold State.writeEntry; split <;> rfl
@[simp] theorem State.writeEntry_reportResult (e : Entry) : (s.writeEntry e).acu.reportResult = s.acu.reportResult := by
  unfold State.writeEntry; split <;> rfl
@[simp] theorem State.writeEntry_readDue (e : Entry) : (s.writeEntry e).acu.readDue = s.acu.readDue := by
  unfold State.writeEntry; split <;> rfl
@[simp] theorem State.writeEntry_stationGate (e : Entry) : (s.writeEntry e).acu.stationGate = s.acu.stationGate := by
  unfold State.writeEntry; split <;> rfl
@[simp] theorem State.writeEntry_socketGate (e : Entry) : (s.writeEntry e).acu.socketGate = s.acu.socketGate := by
  unfold State.writeEntry; split <;> rfl
@[simp] theorem State.writeEntry_powered (e : Entry) : (s.writeEntry e).acu.powered = s.acu.powered := by
  unfold State.writeEntry; split <;> rfl

end Sys2Proof.Machine
end

