-- ==== Sys2Proof/Laws/Keeps.lean ====
section
/-! SUPPORT. What every shared operation keeps, said once for each: the bound on the history, the fifth law, the third
law's pool of tokens, the seventh law, and what was loaded at reset. -/

namespace Sys2Proof.Machine

/-- What a record keeps across an update: its fifth law, and its failure (R135, R141). -/
structure SocketRecord.Keeps (r q : SocketRecord) : Prop where
  credit : r.credit.sum ≤ r.exposure → q.credit.sum ≤ q.exposure
  failed : r.state = .failed → q.state = .failed ∧ q.failure = r.failure

theorem SocketRecord.Keeps.refl (r : SocketRecord) : r.Keeps r := ⟨id, fun h => ⟨h, rfl⟩⟩

/-- An update that leaves the state, the failure part, the credit and the exposure. -/
theorem SocketRecord.Keeps.of_eq {r q : SocketRecord} (hs : q.state = r.state) (hf : q.failure = r.failure)
    (hc : q.credit = r.credit) (he : q.exposure = r.exposure) : r.Keeps q :=
  ⟨fun h => by rw [hc, he]; exact h, fun h => ⟨by rw [hs]; exact h, hf⟩⟩

/-- An update of a record that is not FAILED and that leaves its credit and exposure. -/
theorem SocketRecord.Keeps.of_ne {r q : SocketRecord} (hn : r.state ≠ .failed) (hc : q.credit = r.credit)
    (he : q.exposure = r.exposure) : r.Keeps q :=
  ⟨fun h => by rw [hc, he]; exact h, fun h => absurd h hn⟩

/-- What an operation keeps. -/
structure Keeps (s t : State) : Prop where
  history : s.historyBounded → t.historyBounded
  records : ∀ i : Socket, s.acu.records[i].Keeps t.acu.records[i]
  pool : s.poolInOrder → t.poolInOrder
  load : s.sameLoad t

theorem Keeps.refl (s : State) : Keeps s s := ⟨id, fun _ => SocketRecord.Keeps.refl _, id, ⟨rfl, rfl, rfl⟩⟩

theorem Keeps.trans {s t u : State} (a : Keeps s t) (b : Keeps t u) : Keeps s u where
  history h := b.history (a.history h)
  records i :=
    { credit := fun h => (b.records i).credit ((a.records i).credit h)
      failed := fun h =>
        have ha := (a.records i).failed h
        have hb := (b.records i).failed ha.1
        ⟨hb.1, hb.2.trans ha.2⟩ }
  pool h := b.pool (a.pool h)
  load := ⟨b.load.1.trans a.load.1, b.load.2.1.trans a.load.2.1, b.load.2.2.trans a.load.2.2⟩

/-- The fifth law is kept. -/
theorem Keeps.creditBounded {s t : State} (h : Keeps s t) (hs : s.creditBounded) : t.creditBounded :=
  fun i => (h.records i).credit (hs i)

/-- The seventh law is kept. -/
theorem Keeps.keepsFailed {s t : State} (h : Keeps s t) : s.keepsFailed t := fun i hi => (h.records i).failed hi

/-- The pool is in order wherever its heaters, tokens and queue are the same. -/
theorem poolInOrder_of_eq {s t : State} (hv : t.thu.heaters = s.thu.heaters) (ht : t.thu.tokens = s.thu.tokens)
    (hq : t.thu.waitQueue = s.thu.waitQueue) (h : s.poolInOrder) : t.poolInOrder := by
  unfold State.poolInOrder State.tokensCover State.noIdleToken State.queueMatches Thu.onCount at *
  rw [hv, ht, hq]; exact h

/-- An operation that leaves the history, the records, the heaters, the tokens, the wait queue and the load. -/
theorem Keeps.same {s t : State} (hh : t.acu.history = s.acu.history) (hr : t.acu.records = s.acu.records)
    (hv : t.thu.heaters = s.thu.heaters) (ht : t.thu.tokens = s.thu.tokens) (hq : t.thu.waitQueue = s.thu.waitQueue)
    (hl : t.ldr = s.ldr) : Keeps s t where
  history h := by unfold State.historyBounded at *; rw [hh]; exact h
  records i := by rw [hr]; exact SocketRecord.Keeps.refl _
  pool := poolInOrder_of_eq hv ht hq
  load := by rw [State.sameLoad, hl]; exact ⟨rfl, rfl, rfl⟩

/-- An update of the BIU. -/
theorem keeps_biu (s : State) (b : Biu) : Keeps s { s with biu := b } := Keeps.same rfl rfl rfl rfl rfl rfl

/-- An update of run control. -/
theorem keeps_rcu (s : State) (r : Rcu) : Keeps s { s with rcu := r } := Keeps.same rfl rfl rfl rfl rfl rfl

theorem Keeps.ite {s t u : State} {c : Prop} [Decidable c] (ht : c → Keeps s t) (hu : ¬c → Keeps s u) :
    Keeps s (if c then t else u) := by
  split
  · exact ht ‹_›
  · exact hu ‹_›

theorem Keeps.foldl {α : Type} (f : State → α → State) (h : ∀ t a, Keeps t (f t a)) (l : List α) (s : State) :
    Keeps s (l.foldl f s) := by
  induction l generalizing s with
  | nil => exact Keeps.refl s
  | cons a l ih => exact (h s a).trans (ih (f s a))

/-! ### The named updates -/

theorem keeps_modRecord (s : State) (i : Socket) (f : SocketRecord → SocketRecord)
    (h : s.acu.records[i].Keeps (f s.acu.records[i])) : Keeps s (s.modRecord i f) where
  history h := h
  records j := by
    rw [State.modRecord_records]
    split
    · next e => subst e; exact h
    · exact SocketRecord.Keeps.refl _
  pool h := h
  load := ⟨rfl, rfl, rfl⟩

/-- An update of a record that is not FAILED. -/
theorem keeps_modRecord_ne (s : State) (i : Socket) (f : SocketRecord → SocketRecord) (h : s.socketState i ≠ .failed)
    (hc : ∀ r, (f r).credit = r.credit) (he : ∀ r, (f r).exposure = r.exposure) : Keeps s (s.modRecord i f) :=
  keeps_modRecord s i f (SocketRecord.Keeps.of_ne h (hc _) (he _))

theorem keeps_mapRecords (s : State) (f : Socket → SocketRecord → SocketRecord)
    (h : ∀ i : Socket, s.acu.records[i].Keeps (f i s.acu.records[i])) : Keeps s (s.mapRecords f) where
  history h := h
  records j := by rw [State.mapRecords_records]; exact h j
  pool h := h
  load := ⟨rfl, rfl, rfl⟩

theorem keeps_writeEntry (s : State) (e : Entry) : Keeps s (s.writeEntry e) where
  history h := by
    unfold State.historyBounded at *
    by_cases c : s.acu.history.length < Config.historyCap
    · rw [State.writeEntry_room s e c]; simp; omega
    · rw [State.writeEntry_full s e c]; exact h
  records j := by rw [State.writeEntry_records]; exact SocketRecord.Keeps.refl _
  pool := poolInOrder_of_eq (by rw [State.writeEntry_thu]) (by rw [State.writeEntry_thu]) (by rw [State.writeEntry_thu])
  load := by unfold State.sameLoad; rw [State.writeEntry_ldr]; exact ⟨rfl, rfl, rfl⟩

/-- The count of heaters in their on-phase, as a count over the list. -/
theorem onCount_eq (t : Thu) : t.onCount = t.heaters.toList.countP (fun h => h.phase == .on) := by
  simp [Thu.onCount, List.countP_eq_length_filter]

/-- The count after one heater's update. -/
theorem onCount_modHeater (s : State) (i : Socket) (f : Heater → Heater) :
    (s.modHeater i f).thu.onCount =
      s.thu.onCount - (if s.thu.heaters[i].phase = .on then 1 else 0) +
        (if (f s.thu.heaters[i]).phase = .on then 1 else 0) := by
  rw [onCount_eq, onCount_eq]
  show ((s.thu.heaters.set i.val (f s.thu.heaters[i])).toList.countP _) = _
  rw [Vector.toList_set, List.countP_set]
  · simp
  · simp

/-- A heater that is on is counted. -/
theorem onCount_pos (s : State) (i : Socket) (h : s.thu.heaters[i].phase = .on) : 1 ≤ s.thu.onCount := by
  rw [onCount_eq]
  exact List.countP_pos_iff.mpr ⟨s.thu.heaters[i], by simp, by rw [h]; rfl⟩

/-- The phases after one heater's update. -/
theorem phase_modHeater (s : State) (i j : Socket) (f : Heater → Heater) :
    (s.modHeater i f).thu.heaters[j].phase = if i = j then (f s.thu.heaters[i]).phase else s.thu.heaters[j].phase := by
  rw [State.modHeater_heaters]; split <;> rfl

/-- An update that leaves a heater's phase keeps the pool. -/
theorem pool_modHeater (s : State) (i : Socket) (f : Heater → Heater)
    (h : (f s.thu.heaters[i]).phase = s.thu.heaters[i].phase) (hp : s.poolInOrder) : (s.modHeater i f).poolInOrder := by
  have hc : (s.modHeater i f).thu.onCount = s.thu.onCount := by
    rw [onCount_modHeater, h]
    by_cases c : s.thu.heaters[i].phase = .on
    · have := onCount_pos s i c
      rw [if_pos c]; omega
    · rw [if_neg c]; omega
  obtain ⟨h1, h2, h3, h4⟩ := hp
  refine ⟨?_, ?_, h3, fun j => ?_⟩
  · unfold State.tokensCover at *; rw [hc]; exact h1
  · unfold State.noIdleToken at *; rw [hc]; exact h2
  · refine (h4 j).trans ?_
    rw [phase_modHeater]
    split
    · next e => subst e; rw [h]
    · rfl

theorem keeps_modHeater (s : State) (i : Socket) (f : Heater → Heater)
    (h : (f s.thu.heaters[i]).phase = s.thu.heaters[i].phase) : Keeps s (s.modHeater i f) where
  history h := h
  records _ := SocketRecord.Keeps.refl _
  pool := pool_modHeater s i f h
  load := ⟨rfl, rfl, rfl⟩

theorem onCount_mapHeaters (s : State) (f : Socket → Heater → Heater)
    (h : ∀ i : Socket, (f i s.thu.heaters[i]).phase = .on → s.thu.heaters[i].phase = .on) :
    (s.mapHeaters f).thu.onCount ≤ s.thu.onCount := by
  rw [onCount_eq, onCount_eq]
  have e : s.thu.heaters.toList = (List.finRange 16).map (fun i => s.thu.heaters[i]) := by
    apply List.ext_getElem
    · simp
    · intro k _ _; simp
  have e' : (s.mapHeaters f).thu.heaters.toList = (List.finRange 16).map (fun i => f i s.thu.heaters[i]) := by
    apply List.ext_getElem
    · simp
    · intro k _ _; simp [State.mapHeaters]
  rw [e, e', List.countP_map, List.countP_map]
  refine List.countP_mono_left (fun i _ hi => ?_)
  simp only [Function.comp, beq_iff_eq] at hi ⊢
  exact h i hi

/-- Updates that leave every heater's phase keep the count. -/
theorem onCount_mapHeaters_same (s : State) (f : Socket → Heater → Heater) (h : ∀ i x, (f i x).phase = x.phase) :
    (s.mapHeaters f).thu.onCount = s.thu.onCount := by
  rw [onCount_eq, onCount_eq]
  have e : s.thu.heaters.toList = (List.finRange 16).map (fun i => s.thu.heaters[i]) := by
    apply List.ext_getElem
    · simp
    · intro k _ _; simp
  have e' : (s.mapHeaters f).thu.heaters.toList = (List.finRange 16).map (fun i => f i s.thu.heaters[i]) := by
    apply List.ext_getElem
    · simp
    · intro k _ _; simp [State.mapHeaters]
  rw [e, e', List.countP_map, List.countP_map]
  exact List.countP_congr (fun i _ => by simp [h])

/-- The pool stays in order where the count, the tokens, the queue and who waits are the same. -/
theorem poolInOrder_of_phases {s t : State} (hc : t.thu.onCount = s.thu.onCount) (ht : t.thu.tokens = s.thu.tokens)
    (hq : t.thu.waitQueue = s.thu.waitQueue)
    (hp : ∀ j : Socket, t.thu.heaters[j].phase = s.thu.heaters[j].phase) (h : s.poolInOrder) : t.poolInOrder := by
  obtain ⟨h1, h2, h3, h4⟩ := h
  unfold State.poolInOrder State.tokensCover State.noIdleToken State.queueMatches at *
  rw [hc, ht, hq]
  exact ⟨h1, h2, h3, fun j => (h4 j).trans (by rw [hp j])⟩

theorem pool_mapHeaters (s : State) (f : Socket → Heater → Heater) (h : ∀ i x, (f i x).phase = x.phase)
    (hp : s.poolInOrder) : (s.mapHeaters f).poolInOrder :=
  poolInOrder_of_phases (onCount_mapHeaters_same s f h) (State.mapHeaters_tokens s f) (State.mapHeaters_waitQueue s f)
    (fun j => by rw [State.mapHeaters_heaters, h]) hp

theorem keeps_mapHeaters (s : State) (f : Socket → Heater → Heater) (h : ∀ i x, (f i x).phase = x.phase) :
    Keeps s (s.mapHeaters f) where
  history h := h
  records _ := SocketRecord.Keeps.refl _
  pool := pool_mapHeaters s f h
  load := ⟨rfl, rfl, rfl⟩

/-- With every heater stopped and nobody waiting the pool is in order, whatever the tokens. -/
theorem pool_stopped (s : State) (h : ∀ i : Socket, s.thu.heaters[i].phase = .stopped) (hq : s.thu.waitQueue = []) :
    s.poolInOrder := by
  have hc : s.thu.onCount = 0 := by
    rw [onCount_eq, List.countP_eq_zero]
    intro x hx
    obtain ⟨k, hk, rfl⟩ := List.mem_iff_getElem.mp hx
    simp only [Vector.length_toList] at hk
    have := h ⟨k, hk⟩
    simp only [Fin.getElem_fin] at this
    simp [this]
  refine ⟨?_, ?_, ?_, fun i => ?_⟩
  · unfold State.tokensCover; rw [hc]; exact Nat.zero_le _
  · intro hn; exact absurd hq hn
  · rw [hq]; exact List.nodup_nil
  · rw [hq, h i]; simp

/-! ### Tokens and heaters -/

/-- A token at hand is given to the queue's head or left free. -/
theorem serveHead_onCount (s : State) : s.serveHead.thu.onCount ≤ s.thu.onCount + 1 := by
  unfold State.serveHead
  split
  · omega
  · next h rest e =>
    rw [onCount_modHeater]
    have : Thu.onCount { s.thu with waitQueue := rest } = s.thu.onCount := rfl
    simp only [this]; split <;> split <;> omega

theorem serveHead_same (s : State) : s.serveHead.thu.tokens = s.thu.tokens ∧ s.serveHead.acu = s.acu ∧
    s.serveHead.ldr = s.ldr := by unfold State.serveHead; split <;> exact ⟨rfl, rfl, rfl⟩

/-- A pool with one token at hand: it covers one heater more, and a waiting heater finds no second one. -/
def State.tokenAtHand (s : State) : Prop :=
  s.thu.onCount + 1 ≤ s.thu.tokens ∧ (s.thu.waitQueue ≠ [] → s.thu.tokens ≤ s.thu.onCount + 1) ∧ s.queueMatches

/-- The token at hand given to the head, or left free, puts the pool in order. -/
theorem pool_serveHead (s : State) (h : s.tokenAtHand) : s.serveHead.poolInOrder := by
  obtain ⟨h1, h2, h3, h4⟩ := h
  unfold State.serveHead
  split
  · next e => exact ⟨by unfold State.tokensCover; omega, fun hn => absurd e hn, h3, h4⟩
  · next a rest e =>
    have hn : s.thu.waitQueue ≠ [] := by rw [e]; simp
    have hw : s.thu.heaters[a].phase = .waiting := (h4 a).mp (by rw [e]; simp)
    rw [e, List.nodup_cons] at h3
    have hc : (State.modHeater { s with thu := { s.thu with waitQueue := rest } } a turnOn).thu.onCount =
        s.thu.onCount + 1 := by
      rw [onCount_modHeater]
      have e1 : Thu.onCount { s.thu with waitQueue := rest } = s.thu.onCount := rfl
      simp only [e1]
      rw [if_neg (by rw [hw]; decide), if_pos (show (turnOn s.thu.heaters[a]).phase = .on from rfl)]; omega
    refine ⟨?_, ?_, h3.2, fun j => ?_⟩
    · unfold State.tokensCover; rw [hc]; exact h1
    · intro _; rw [hc]; exact h2 hn
    · rw [phase_modHeater]
      split
      · next e2 => subst e2; exact ⟨fun hm => absurd hm h3.1, fun hp => by simp [turnOn] at hp⟩
      · next e2 =>
        have := h4 j
        rw [e, List.mem_cons] at this
        refine Iff.trans ?_ this
        exact ⟨Or.inr, fun o => o.resolve_left (fun e3 => e2 e3.symm)⟩

/-- The token at hand released puts the pool in order. -/
theorem pool_releaseToken (s : State) (h : s.tokenAtHand) : s.releaseToken.poolInOrder := by
  obtain ⟨h1, h2, h3, h4⟩ := h
  refine ⟨?_, fun hn => ?_, h3, h4⟩
  · show s.thu.onCount ≤ s.thu.tokens - 1; omega
  · have := h2 hn
    show s.thu.tokens - 1 ≤ s.thu.onCount; omega

/-- Serving the head keeps everything when a token is at hand. -/
theorem keeps_serveHead {s : State} (u : State) (ha : u.acu = s.acu) (hl : u.ldr = s.ldr)
    (h : s.poolInOrder → u.tokenAtHand) : Keeps s u.serveHead where
  history h := by unfold State.historyBounded at *; rw [(serveHead_same u).2.1, ha]; exact h
  records i := by rw [(serveHead_same u).2.1, ha]; exact SocketRecord.Keeps.refl _
  pool hs := pool_serveHead u (h hs)
  load := by unfold State.sameLoad; rw [(serveHead_same u).2.2, hl]; exact ⟨rfl, rfl, rfl⟩

theorem keeps_releaseToken {s : State} (u : State) (ha : u.acu = s.acu) (hl : u.ldr = s.ldr)
    (h : s.poolInOrder → u.tokenAtHand) : Keeps s u.releaseToken where
  history h := by unfold State.historyBounded at *; exact (show u.acu.history.length ≤ _ by rw [ha]; exact h)
  records i := by show SocketRecord.Keeps _ u.acu.records[i]; rw [ha]; exact SocketRecord.Keeps.refl _
  pool hs := pool_releaseToken u (h hs)
  load := by show State.sameLoad s u; unfold State.sameLoad; rw [hl]; exact ⟨rfl, rfl, rfl⟩

/-- A heater that is turned off from its on-phase leaves its token at hand. -/
theorem tokenAtHand_turnOff (s : State) (i : Socket) (h : s.thu.heaters[i].phase = .on) (hp : s.poolInOrder) :
    (s.modHeater i turnOff).tokenAtHand := by
  obtain ⟨h1, h2, h3, h4⟩ := hp
  have hpos := onCount_pos s i h
  have hc : (s.modHeater i turnOff).thu.onCount = s.thu.onCount - 1 := by
    rw [onCount_modHeater, if_pos h, if_neg (by simp [turnOff])]; omega
  unfold State.tokensCover at h1
  refine ⟨?_, fun hn => ?_, h3, fun j => ?_⟩
  · rw [hc]; show s.thu.onCount - 1 + 1 ≤ s.thu.tokens; omega
  · have := h2 hn
    rw [hc]; show s.thu.tokens ≤ s.thu.onCount - 1 + 1; omega
  · refine (h4 j).trans ?_
    rw [phase_modHeater]
    split
    · next e => subst e; rw [h]; simp [turnOff]
    · rfl

/-- A waiting heater that leaves keeps the pool. -/
theorem pool_leave (s : State) (i : Socket) (h : s.thu.heaters[i].phase = .waiting) (hp : s.poolInOrder) :
    ((s.modHeater i turnOff).leaveQueue i).poolInOrder := by
  obtain ⟨h1, h2, h3, h4⟩ := hp
  have hc : (s.modHeater i turnOff).thu.onCount = s.thu.onCount := by
    rw [onCount_modHeater, if_neg (by rw [h]; decide), if_neg (by simp [turnOff])]; omega
  refine ⟨?_, fun hn => ?_, h3.filter _, fun j => ?_⟩
  · show (s.modHeater i turnOff).thu.onCount ≤ s.thu.tokens; rw [hc]; exact h1
  · show s.thu.tokens ≤ (s.modHeater i turnOff).thu.onCount
    rw [hc]
    exact h2 (fun e => hn (by show List.filter _ s.thu.waitQueue = []; rw [e]; rfl))
  · show j ∈ List.filter _ s.thu.waitQueue ↔ (s.modHeater i turnOff).thu.heaters[j].phase = .waiting
    rw [phase_modHeater, List.mem_filter, h4 j]
    split
    · next e => subst e; simp [turnOff]
    · next e => simp; intro _ e2; exact e e2.symm

theorem keeps_endHeating (s : State) (i : Socket) : Keeps s (s.endHeating i) := by
  unfold State.endHeating
  split
  · next h =>
    unfold State.tokenReturned
    split
    · exact keeps_releaseToken _ rfl rfl (tokenAtHand_turnOff s i h)
    · exact keeps_serveHead _ rfl rfl (tokenAtHand_turnOff s i h)
  · next h => exact ⟨id, fun _ => SocketRecord.Keeps.refl _, pool_leave s i h, ⟨rfl, rfl, rfl⟩⟩
  · exact Keeps.refl s

/-- Serving the head leaves a heater that is off in its period. -/
theorem serveHead_phase (u : State) (i : Socket) (h0 : u.thu.heaters[i].phase = .offTime) (hq : u.queueMatches) :
    u.serveHead.thu.heaters[i].phase = .offTime := by
  unfold State.serveHead
  split
  · exact h0
  · next a rest e =>
    have ha : a ≠ i := fun e2 => by
      have := (hq.2 a).mp (by rw [e]; simp)
      rw [e2, h0] at this; cases this
    rw [phase_modHeater, if_neg ha]
    exact h0

/-- A heater that ended what it did is neither ON nor WAITING. -/
theorem endHeating_phase (s : State) (i : Socket) (hp : s.poolInOrder) :
    (s.endHeating i).thu.heaters[i].phase ≠ .on ∧ (s.endHeating i).thu.heaters[i].phase ≠ .waiting := by
  unfold State.endHeating
  split
  · next h =>
    have h0 : (s.modHeater i turnOff).thu.heaters[i].phase = .offTime := by rw [phase_modHeater, if_pos rfl]; rfl
    unfold State.tokenReturned
    split
    · show (s.modHeater i turnOff).thu.heaters[i].phase ≠ _ ∧ (s.modHeater i turnOff).thu.heaters[i].phase ≠ _
      rw [h0]; decide
    · rw [serveHead_phase _ i h0 (tokenAtHand_turnOff s i h hp).2.2]; decide
  · show (s.modHeater i turnOff).thu.heaters[i].phase ≠ _ ∧ (s.modHeater i turnOff).thu.heaters[i].phase ≠ _
    rw [phase_modHeater, if_pos rfl]; simp [turnOff]
  · next h1 h2 => exact ⟨h1, h2⟩

theorem keeps_forceOff (s : State) (i : Socket) : Keeps s (s.forceOff i) :=
  (keeps_modHeater s i _ rfl).trans (keeps_endHeating _ i)

/-- A heater that neither is ON nor waits starts its period, and the pool stays in order. -/
theorem pool_startPeriod (s : State) (i : Socket)
    (hi : s.thu.heaters[i].phase ≠ .on ∧ s.thu.heaters[i].phase ≠ .waiting) (hp : s.poolInOrder) :
    (s.startPeriod i).poolInOrder := by
  unfold State.startPeriod
  dsimp only
  have hp1 := pool_modHeater s i (latch s.prof.heaterPeriod) rfl hp
  have hi1 : (s.modHeater i (latch s.prof.heaterPeriod)).thu.heaters[i].phase = s.thu.heaters[i].phase := by
    rw [phase_modHeater, if_pos rfl]; rfl
  rw [← hi1] at hi
  clear hi1
  generalize s.modHeater i (latch s.prof.heaterPeriod) = u at *
  obtain ⟨h1, h2, h3, h4⟩ := hp1
  have hcount (f : Heater → Heater) : (u.modHeater i f).thu.onCount =
      u.thu.onCount + (if (f u.thu.heaters[i]).phase = .on then 1 else 0) := by
    rw [onCount_modHeater, if_neg hi.1]; omega
  have hnot : i ∉ u.thu.waitQueue := fun hm => hi.2 ((h4 i).mp hm)
  unfold State.tokensCover at h1
  split
  · have hc : (u.modHeater i turnOff).thu.onCount = u.thu.onCount := by rw [hcount, if_neg (by simp [turnOff])]; omega
    refine ⟨?_, fun hn => ?_, h3, fun j => (h4 j).trans ?_⟩
    · unfold State.tokensCover; rw [hc]; exact h1
    · rw [hc]; exact h2 hn
    · rw [phase_modHeater]
      split
      · next e => subst e; exact ⟨fun e => absurd e hi.2, fun e => by simp [turnOff] at e⟩
      · rfl
  · split
    · next hf =>
      simp only [Thu.hasFree, decide_eq_true_eq] at hf
      have hc : (u.modHeater i turnOn).thu.onCount = u.thu.onCount + 1 := by rw [hcount, if_pos (show (turnOn u.thu.heaters[i]).phase = .on from rfl)]
      refine ⟨?_, fun hn => ?_, h3, fun j => (h4 j).trans ?_⟩
      · unfold State.tokensCover; rw [hc]; exact hf
      · have := h2 hn; omega
      · rw [phase_modHeater]
        split
        · next e => subst e; exact ⟨fun e => absurd e hi.2, fun e => by simp [turnOn] at e⟩
        · rfl
    · next hf =>
      simp only [Thu.hasFree, decide_eq_true_eq] at hf
      have hc : (State.modHeater { u with thu := { u.thu with waitQueue := u.thu.waitQueue ++ [i] } } i
          waitToken).thu.onCount = u.thu.onCount := by
        have := hcount waitToken
        rw [if_neg (by simp [waitToken])] at this
        exact this
      refine ⟨?_, fun _ => ?_, ?_, fun j => ?_⟩
      · unfold State.tokensCover; rw [hc]; exact h1
      · rw [hc]; show u.thu.tokens ≤ u.thu.onCount; omega
      · show (u.thu.waitQueue ++ [i]).Nodup
        rw [List.nodup_append]
        exact ⟨h3, List.nodup_singleton i, fun a ha b hb e => hnot (by
          rw [List.mem_singleton] at hb; rw [← hb, ← e]; exact ha)⟩
      · show j ∈ u.thu.waitQueue ++ [i] ↔ _
        rw [phase_modHeater, List.mem_append, List.mem_singleton, h4 j]
        split
        · next e => subst e; simp [waitToken]
        · next e => exact ⟨fun o => o.resolve_right (fun e2 => e e2.symm), Or.inl⟩

theorem keeps_startPeriod {s : State} (u : State) (i : Socket) (h : Keeps s u)
    (hi : s.poolInOrder → u.thu.heaters[i].phase ≠ .on ∧ u.thu.heaters[i].phase ≠ .waiting) :
    Keeps s (u.startPeriod i) := by
  have ha : (u.startPeriod i).acu = u.acu ∧ (u.startPeriod i).ldr = u.ldr := by
    unfold State.startPeriod
    dsimp only
    split
    · exact ⟨rfl, rfl⟩
    · split <;> exact ⟨rfl, rfl⟩
  exact
    { history := fun hs => by unfold State.historyBounded at *; rw [ha.1]; exact h.history hs
      records := fun j => by rw [ha.1]; exact h.records j
      pool := fun hs => pool_startPeriod u i (hi hs) (h.pool hs)
      load := by unfold State.sameLoad; rw [ha.2]; exact h.load }

theorem keeps_addToken (s : State) : Keeps s s.addToken :=
  keeps_serveHead _ rfl rfl (fun h => ⟨Nat.succ_le_succ h.1, fun hn => Nat.succ_le_succ (h.2.1 hn), h.2.2⟩)

theorem keeps_regulate (s : State) (i : Socket) : Keeps s (s.regulate i) := by
  unfold State.regulate
  refine Keeps.ite (fun _ => ?_) (fun _ => Keeps.refl s)
  split
  · exact keeps_modHeater s i _ rfl
  · exact keeps_forceOff s i

theorem keeps_regulateAll (s : State) : Keeps s s.regulateAll := by
  unfold State.regulateAll
  refine (Keeps.foldl State.regulate keeps_regulate allSockets s).trans ?_
  generalize allSockets.foldl State.regulate s = u
  exact keeps_mapRecords u _ (fun _ => SocketRecord.Keeps.of_eq rfl rfl rfl rfl)

theorem keeps_dropIneligible (s : State) : Keeps s s.dropIneligible :=
  keeps_mapHeaters s _ (fun i h => by split <;> rfl)

theorem keeps_withdraw (s : State) (n : Need) : Keeps s (s.withdraw n) := Keeps.same rfl rfl rfl rfl rfl rfl

theorem keeps_tokenCheck (s : State) : Keeps s s.tokenCheck := by
  unfold State.tokenCheck
  dsimp only
  refine Keeps.ite (fun _ => Keeps.same rfl rfl rfl rfl rfl rfl) (fun _ => ?_)
  refine Keeps.ite (fun _ => Keeps.same rfl rfl rfl rfl rfl rfl) (fun _ => ?_)
  refine (keeps_withdraw s .heater).trans ?_
  generalize s.withdraw .heater = u
  refine Keeps.ite (fun _ => Keeps.refl u) (fun _ => ?_)
  refine Keeps.ite (fun h => ?_) (fun _ => Keeps.same rfl rfl rfl rfl rfl rfl)
  have hf : u.thu.onCount < u.thu.tokens := by simpa [Thu.hasFree] using h
  exact keeps_releaseToken u rfl rfl (fun hp => ⟨hf, fun hn => absurd (hp.2.1 hn) (Nat.not_le.mpr hf), hp.2.2⟩)

theorem keeps_setAnchor (s : State) : Keeps s s.setAnchor := by
  unfold State.setAnchor
  dsimp only
  generalize hu : ({ s.mapHeaters (anchorHeater s.prof.heaterPeriod) with
    thu := { (s.mapHeaters (anchorHeater s.prof.heaterPeriod)).thu with
      waitQueue := [], anchor := some (s.mapHeaters (anchorHeater s.prof.heaterPeriod)).biu.roundNumber } } : State) = u
  have hs : ∀ i : Socket, u.thu.heaters[i].phase = .stopped := fun i => by
    subst hu
    show (s.mapHeaters (anchorHeater s.prof.heaterPeriod)).thu.heaters[i].phase = _
    rw [State.mapHeaters_heaters]; rfl
  have hq : u.thu.waitQueue = [] := by subst hu; rfl
  have ha : u.acu = s.acu := by subst hu; rfl
  have hl : u.ldr = s.ldr := by subst hu; rfl
  have hk (v : State) (hv : v.thu.heaters = u.thu.heaters) (hq' : v.thu.waitQueue = u.thu.waitQueue)
      (ha' : v.acu = u.acu) (hl' : v.ldr = u.ldr) : Keeps s (v.startPeriod 0) := by
    have hs' : ∀ i : Socket, v.thu.heaters[i].phase = .stopped := fun i => by rw [hv]; exact hs i
    refine keeps_startPeriod v 0 ⟨fun h => ?_, fun i => ?_, fun _ => pool_stopped v hs' (hq'.trans hq), ?_⟩
      (fun _ => by rw [hs' 0]; decide)
    · unfold State.historyBounded at *; rw [ha', ha]; exact h
    · rw [ha', ha]; exact SocketRecord.Keeps.refl _
    · unfold State.sameLoad; rw [hl', hl]; exact ⟨rfl, rfl, rfl⟩
  split
  · exact hk u.releaseToken rfl rfl rfl rfl
  · exact hk u rfl rfl rfl rfl

theorem keeps_stopSchedule (s : State) : Keeps s s.stopSchedule := by
  unfold State.stopSchedule
  have h1 : ∀ i : Socket, (s.mapHeaters (fun _ h => stopHeater h)).thu.heaters[i].phase = .stopped := fun i => by
    rw [State.mapHeaters_heaters]; rfl
  have ha : (s.mapHeaters (fun _ h => stopHeater h)).acu = s.acu := rfl
  have hl : (s.mapHeaters (fun _ h => stopHeater h)).ldr = s.ldr := rfl
  generalize s.mapHeaters (fun _ h => stopHeater h) = u at *
  refine ⟨fun h => ?_, fun i => ?_, fun _ => pool_stopped _ h1 rfl, ?_⟩
  · show u.acu.history.length ≤ _; rw [ha]; exact h
  · show SocketRecord.Keeps _ u.acu.records[i]; rw [ha]; exact SocketRecord.Keeps.refl _
  · show State.sameLoad s u; unfold State.sameLoad; rw [hl]; exact ⟨rfl, rfl, rfl⟩

theorem keeps_stopHeating (s : State) : Keeps s s.stopHeating := by
  unfold State.stopHeating
  have h1 : ∀ i : Socket, (s.mapHeaters (fun _ h => endHeater h)).thu.heaters[i].phase = .stopped := fun i => by
    rw [State.mapHeaters_heaters]; rfl
  have ha : (s.mapHeaters (fun _ h => endHeater h)).acu = s.acu := rfl
  have hl : (s.mapHeaters (fun _ h => endHeater h)).ldr = s.ldr := rfl
  generalize s.mapHeaters (fun _ h => endHeater h) = u at *
  refine ⟨fun h => ?_, fun i => ?_, fun _ => pool_stopped _ h1 rfl, ?_⟩
  · show u.acu.history.length ≤ _; rw [ha]; exact h
  · show SocketRecord.Keeps _ u.acu.records[i]; rw [ha]; exact SocketRecord.Keeps.refl _
  · show State.sameLoad s u; unfold State.sameLoad; rw [hl]; exact ⟨rfl, rfl, rfl⟩

theorem keeps_requestScan (s : State) (k : ScanKind) : Keeps s (s.requestScan k) := by
  unfold State.requestScan; split <;> exact Keeps.same rfl rfl rfl rfl rfl rfl

/-! ### The pattern engine -/

theorem keeps_rejoin (s : State) : Keeps s s.rejoin :=
  keeps_mapRecords s _ (fun i => by
    split
    · next h => exact SocketRecord.Keeps.of_ne (by rw [h]; decide) rfl rfl
    · exact SocketRecord.Keeps.refl _)

theorem keeps_beginPass (s : State) : Keeps s s.beginPass :=
  (keeps_rejoin s).trans (Keeps.same rfl rfl rfl rfl rfl rfl)

theorem keeps_stopEngine (s : State) : Keeps s s.stopEngine := Keeps.same rfl rfl rfl rfl rfl rfl

theorem keeps_abandon (s : State) : Keeps s s.abandon := by
  unfold State.abandon
  exact Keeps.ite (fun _ => Keeps.refl s) (fun _ => Keeps.same rfl rfl rfl rfl rfl rfl)

theorem keeps_startPattern (s : State) (n : Nat) : Keeps s (s.startPattern n) := by
  unfold State.startPattern
  split
  · exact Keeps.refl s
  · next e _ =>
    dsimp only
    split
    · refine Keeps.trans ?_ (keeps_rejoin _); exact Keeps.same rfl rfl rfl rfl rfl rfl
    · refine Keeps.trans ?_ (keeps_beginPass _); exact Keeps.same rfl rfl rfl rfl rfl rfl

theorem keeps_requestStart (s : State) (n : Nat) : Keeps s (s.requestStart n) := by
  unfold State.requestStart
  exact Keeps.ite (fun _ => Keeps.same rfl rfl rfl rfl rfl rfl)
    (fun _ => (keeps_abandon s).trans (keeps_startPattern _ n))

theorem keeps_raiseFirst (s : State) : Keeps s s.raiseFirst := by
  unfold State.raiseFirst; split
  · exact Keeps.same rfl rfl rfl rfl rfl rfl
  · exact Keeps.refl s

/-! ### Switches, trips and rails -/

theorem keeps_dropSocket (s : State) (i : Socket) : Keeps s (s.dropSocket i) := by
  unfold State.dropSocket
  dsimp only
  have h1 : Keeps s (s.modPower i openPower) := Keeps.same rfl rfl rfl rfl rfl rfl
  have h2 := h1.trans (keeps_forceOff _ i)
  have h3 := h2.trans (keeps_modHeater _ i noTrips rfl)
  generalize State.modHeater _ i noTrips = u at h3
  exact h3.trans (Keeps.same rfl rfl rfl rfl rfl rfl)

theorem keeps_releaseAllowance (s : State) (i : Socket) : Keeps s (s.releaseAllowance i) :=
  Keeps.same rfl rfl rfl rfl rfl rfl

theorem keeps_closeSwitch (s : State) (i : Socket) (h : s.socketState i ≠ .failed) : Keeps s (s.closeSwitch i) := by
  unfold State.closeSwitch
  refine Keeps.trans ?_ (keeps_modRecord_ne _ i _ h (fun _ => rfl) (fun _ => rfl))
  exact Keeps.same rfl rfl rfl rfl rfl rfl

theorem keeps_writeSocketEntry (s : State) (i : Socket) (f : Finding) (b : Bool) :
    Keeps s (s.writeSocketEntry i f b) := keeps_writeEntry s _

theorem keeps_writeInterruption (s : State) (c : IntCause) : Keeps s (s.writeInterruption c) := keeps_writeEntry s _

theorem keeps_failSocket (s : State) (i : Socket) (k : FailKind) (f : Finding) (h : s.socketState i ≠ .failed) :
    Keeps s (s.failSocket i k f) := by
  unfold State.failSocket
  refine (keeps_writeSocketEntry s i f true).trans ?_
  have h' : (s.writeSocketEntry i f true).socketState i ≠ .failed := by
    unfold State.socketState State.writeSocketEntry at *; rw [State.writeEntry_records]; exact h
  generalize s.writeSocketEntry i f true = u at *
  refine (keeps_modRecord_ne u i (fun r => r.fail k u.rcu.phase) h' (fun _ => rfl) (fun _ => rfl)).trans ?_
  exact (keeps_dropSocket _ i).trans (keeps_releaseAllowance _ i)

theorem powered_ne_failed {x : SocketState} (h : x.powered = true) : x ≠ .failed := by
  intro e; subst e; simp [SocketState.powered] at h

theorem holds_ne_failed {x : SocketState} (h : x.holds = true) : x ≠ .failed := by
  intro e; subst e; simp [SocketState.holds] at h

theorem keeps_trip (s : State) (i : Socket) (d : Nat) : Keeps s (s.trip i d) := by
  unfold State.trip
  refine Keeps.ite (fun h => ?_) (fun _ => Keeps.refl s)
  dsimp only
  refine Keeps.ite (fun _ => ?_) (fun _ => keeps_failSocket s i _ _ (powered_ne_failed h))
  refine (keeps_modRecord_ne s i (SocketRecord.retry (s.acu.records[i].retries + 1)) (powered_ne_failed h)
    (fun _ => rfl) (fun _ => rfl)).trans ?_
  generalize s.modRecord i (SocketRecord.retry (s.acu.records[i].retries + 1)) = u
  have h1 := (keeps_writeSocketEntry u i (.overcurrent d (s.acu.records[i].retries + 1)) false).trans
    (keeps_dropSocket _ i)
  exact h1.trans (Keeps.same rfl rfl rfl rfl rfl rfl)

theorem keeps_settleSocket (s : State) (i : Socket) (h : s.socketState i ≠ .failed) : Keeps s (s.settleSocket i) := by
  unfold State.settleSocket
  refine Keeps.trans ?_ (keeps_modRecord_ne _ i _ h (fun _ => rfl) (fun _ => rfl))
  exact Keeps.same rfl rfl rfl rfl rfl rfl

theorem keeps_checkOpen (s : State) (i : Socket) (c : Half) (n : Nat) (h : s.socketState i ≠ .failed) :
    Keeps s (s.checkOpen i c n) := by
  unfold State.checkOpen
  exact Keeps.ite (fun _ => keeps_settleSocket s i h)
    (fun _ => Keeps.ite (fun _ => Keeps.same rfl rfl rfl rfl rfl rfl) (fun _ => keeps_failSocket s i _ _ h))

theorem keeps_watchOpen (s : State) (i : Socket) (c : Half) (h : s.socketState i ≠ .failed) :
    Keeps s (s.watchOpen i c) := by
  unfold State.watchOpen
  exact Keeps.ite (fun _ => Keeps.same rfl rfl rfl rfl rfl rfl)
    (fun _ => Keeps.ite (fun _ => Keeps.same rfl rfl rfl rfl rfl rfl) (fun _ => keeps_failSocket s i _ _ h))

theorem keeps_superviseOpen (s : State) (i : Socket) (c : Half) : Keeps s (s.superviseOpen i c) := by
  unfold State.superviseOpen
  split
  · next h =>
    split
    · exact keeps_checkOpen s i c _ (by rw [h]; decide)
    · exact Keeps.refl s
  · next h => exact keeps_watchOpen s i c (by rw [h]; decide)
  · exact Keeps.refl s

theorem keeps_superviseCurrent (s : State) (i : Socket) (c : Half) : Keeps s (s.superviseCurrent i c) := by
  unfold State.superviseCurrent
  refine Keeps.ite (fun _ => ?_) (fun _ => Keeps.refl s)
  refine Keeps.ite (fun _ => Keeps.ite (fun _ => ?_) (fun _ => keeps_trip s i _)) (fun _ => ?_)
  · refine Keeps.trans ?_ (keeps_superviseOpen _ i c); exact Keeps.same rfl rfl rfl rfl rfl rfl
  · refine Keeps.trans ?_ (keeps_superviseOpen _ i c); exact Keeps.same rfl rfl rfl rfl rfl rfl

theorem keeps_startBringup (s : State) : Keeps s s.startBringup := by
  unfold State.startBringup
  exact Keeps.ite (fun _ => Keeps.same rfl rfl rfl rfl rfl rfl) (fun _ => Keeps.same rfl rfl rfl rfl rfl rfl)

theorem keeps_takeRetarget (s : State) (t : Nat) (l : List Rail) : Keeps s (s.takeRetarget t l) := by
  induction l with
  | nil => exact Keeps.same rfl rfl rfl rfl rfl rfl
  | cons r l ih =>
    unfold State.takeRetarget
    exact Keeps.ite (fun _ => ih) (fun _ => Keeps.same rfl rfl rfl rfl rfl rfl)

theorem keeps_startRetarget (s : State) (t : Nat) : Keeps s (s.startRetarget t) := by
  unfold State.startRetarget
  refine Keeps.trans ?_ (keeps_takeRetarget _ t _); exact Keeps.same rfl rfl rfl rfl rfl rfl

theorem keeps_afterRetargeted (s : State) (r : Rail) : Keeps s (s.afterRetargeted r) := by
  unfold State.afterRetargeted
  split
  · exact Keeps.ite (fun _ => keeps_takeRetarget s _ _) (fun _ => Keeps.refl s)
  · exact Keeps.refl s

/-! ### Run control -/

theorem keeps_removePower (s : State) : Keeps s s.removePower := by
  unfold State.removePower
  have h1 : Keeps s (s.mapPower (fun _ p => unpowered p)) := Keeps.same rfl rfl rfl rfl rfl rfl
  have h2 := h1.trans (keeps_stopHeating _)
  generalize (s.mapPower (fun _ p => unpowered p)).stopHeating = u at h2
  have h3 : Keeps s u.railsDisabled := h2.trans (Keeps.same rfl rfl rfl rfl rfl rfl)
  have h4 := h3.trans (keeps_abandon _)
  generalize u.railsDisabled.abandon = w at h4
  exact h4.trans (Keeps.same rfl rfl rfl rfl rfl rfl)

theorem keeps_parkSockets (s : State) : Keeps s s.parkSockets :=
  keeps_mapRecords s _ (fun i => by
    split
    · next h => exact SocketRecord.Keeps.of_ne (holds_ne_failed h) rfl rfl
    · exact SocketRecord.Keeps.refl _)

theorem keeps_socketsOff (s : State) : Keeps s s.socketsOff :=
  keeps_mapRecords s _ (fun i => by
    split
    · next h =>
      refine SocketRecord.Keeps.of_ne ?_ rfl rfl
      rcases h with h | h
      · exact holds_ne_failed h
      · rw [h]; decide
    · exact SocketRecord.Keeps.refl _)

theorem keeps_parkedOff (s : State) : Keeps s s.parkedOff :=
  keeps_mapRecords s _ (fun i => by
    split
    · next h => exact SocketRecord.Keeps.of_ne (by rw [h]; decide) rfl rfl
    · exact SocketRecord.Keeps.refl _)

theorem keeps_enterDone (s : State) (c : Option EndCause) : Keeps s (s.enterDone c) := Keeps.same rfl rfl rfl rfl rfl rfl

theorem keeps_interruptActive (s : State) (c : IntCause) : Keeps s (s.interruptActive c) := by
  unfold State.interruptActive
  dsimp only
  refine ((keeps_removePower s).trans (keeps_parkSockets _)).trans ?_
  generalize s.removePower.parkSockets = u
  have h1 : Keeps u { u with rcu := u.rcu.interrupted } := Keeps.same rfl rfl rfl rfl rfl rfl
  have h2 := h1.trans (keeps_writeInterruption _ c)
  refine h2.trans ?_
  generalize State.writeInterruption { u with rcu := u.rcu.interrupted } c = w
  exact Keeps.ite (fun _ => (keeps_parkedOff w).trans (keeps_enterDone _ _)) (fun _ => Keeps.same rfl rfl rfl rfl rfl rfl)

theorem keeps_interruptRecovering (s : State) (c : IntCause) : Keeps s (s.interruptRecovering c) :=
  (keeps_writeInterruption s c).trans (Keeps.same rfl rfl rfl rfl rfl rfl)

theorem keeps_interruptWinddown (s : State) (c : IntCause) : Keeps s (s.interruptWinddown c) := by
  unfold State.interruptWinddown
  refine ((keeps_removePower s).trans (keeps_socketsOff _)).trans ?_
  generalize s.removePower.socketsOff = u
  have h1 : Keeps u { u with rcu := { u.rcu with intCount := u.rcu.intCount + 1 } } := Keeps.same rfl rfl rfl rfl rfl rfl
  exact (h1.trans (keeps_writeInterruption _ c)).trans (keeps_enterDone _ _)

theorem keeps_interrupt (s : State) (c : IntCause) : Keeps s (s.interrupt c) := by
  unfold State.interrupt
  split
  · exact Keeps.ite (fun _ => keeps_interruptRecovering s c) (fun _ => keeps_interruptActive s c)
  · exact keeps_interruptWinddown s c
  · exact keeps_writeInterruption s c
  · exact keeps_writeInterruption s c
  · exact Keeps.refl s

theorem keeps_finishWinddown (s : State) : Keeps s s.finishWinddown := by
  unfold State.finishWinddown
  exact Keeps.ite (fun _ => Keeps.same rfl rfl rfl rfl rfl rfl) (fun _ => Keeps.refl s)

theorem keeps_takeFalling (s : State) (l : List Rail) : Keeps s (s.takeFalling l) := by
  induction l with
  | nil => exact keeps_finishWinddown s
  | cons r l ih =>
    unfold State.takeFalling
    exact Keeps.ite (fun _ => ih) (fun _ => Keeps.same rfl rfl rfl rfl rfl rfl)

theorem keeps_railDown (s : State) (r : Rail) : Keeps s (s.railDown r) := by
  unfold State.railDown
  refine Keeps.trans ?_ (keeps_takeFalling _ _)
  dsimp only
  split <;> exact Keeps.same rfl rfl rfl rfl rfl rfl

theorem keeps_windStep1 (s : State) : Keeps s s.windStep1 :=
  Keeps.trans (Keeps.same rfl rfl rfl rfl rfl rfl : Keeps s (s.release (s.thu.tokens * s.prof.nominal))) (keeps_stopHeating _)

theorem forceOff_records (s : State) (i : Socket) : (s.forceOff i).acu = s.acu := by
  unfold State.forceOff State.endHeating State.tokenReturned
  split
  · split
    · rfl
    · exact (serveHead_same _).2.1
  · rfl
  · rfl

theorem dropSocket_records (s : State) (i : Socket) : (s.dropSocket i).acu.records = s.acu.records := by
  unfold State.dropSocket; simp [forceOff_records]

theorem keeps_windSocket (s : State) (i : Socket) : Keeps s (s.windSocket i) := by
  unfold State.windSocket
  refine Keeps.ite (fun h => ?_) (fun _ => Keeps.ite (fun h => ?_) (fun _ => Keeps.refl s))
  · refine ((keeps_dropSocket s i).trans (keeps_releaseAllowance _ i)).trans ?_
    refine keeps_modRecord _ i _ (SocketRecord.Keeps.of_ne ?_ rfl rfl)
    show (s.dropSocket i).acu.records[i].state ≠ _
    rw [dropSocket_records]
    exact holds_ne_failed h
  · exact keeps_modRecord _ i _ (SocketRecord.Keeps.of_ne (by
      unfold State.socketState at h; rw [h]; decide) rfl rfl)

theorem keeps_powerDown (s : State) : Keeps s s.powerDown := by
  unfold State.powerDown
  dsimp only
  have h1 : Keeps s { s with rcu := { s.rcu with poweringDown := true } } := Keeps.same rfl rfl rfl rfl rfl rfl
  have h2 := (h1.trans (keeps_windStep1 _)).trans (Keeps.foldl State.windSocket keeps_windSocket allSockets _)
  generalize allSockets.foldl State.windSocket _ = w at h2 ⊢
  refine Keeps.trans ?_ (keeps_takeFalling _ _)
  exact h2.trans (Keeps.same rfl rfl rfl rfl rfl rfl)

theorem keeps_enterWinddown (s : State) (c : EndCause) : Keeps s (s.enterWinddown c) := Keeps.same rfl rfl rfl rfl rfl rfl

theorem keeps_computeDelta (s : State) (t : Nat) : Keeps s (s.computeDelta t) := by
  unfold State.computeDelta
  exact Keeps.ite (fun _ => Keeps.same rfl rfl rfl rfl rfl rfl) (fun _ => keeps_startRetarget s t)

theorem keeps_stopComplete (s : State) : Keeps s s.stopComplete := by
  unfold State.stopComplete
  split
  · split
    · exact Keeps.ite (fun _ => keeps_computeDelta s _) (fun _ => Keeps.refl s)
    · exact Keeps.refl s
  · exact Keeps.ite (fun _ => Keeps.refl s) (fun _ => keeps_powerDown s)
  · exact Keeps.refl s

theorem keeps_requestFinish (s : State) : Keeps s s.requestFinish := by
  unfold State.requestFinish
  split
  · exact Keeps.same rfl rfl rfl rfl rfl rfl
  · exact (keeps_stopEngine s).trans (keeps_stopComplete _)
  · exact Keeps.refl s
  · exact keeps_stopComplete s

theorem keeps_enterTransition (s : State) (t : Nat) : Keeps s (s.enterTransition t) := by
  unfold State.enterTransition
  refine Keeps.trans ?_ (keeps_requestFinish _); exact Keeps.same rfl rfl rfl rfl rfl rfl

theorem keeps_completeRun (s : State) : Keeps s s.completeRun :=
  (keeps_enterWinddown s _).trans (keeps_requestFinish _)

theorem keeps_abortRun (s : State) : Keeps s s.abortRun :=
  ((keeps_abandon s).trans (keeps_enterWinddown _ _)).trans (keeps_powerDown _)

theorem keeps_enterMuted (s : State) (c : MuteCause) : Keeps s (s.enterMuted c) := by
  unfold State.enterMuted
  have h2 : Keeps s s.abandon.stopScanner := (keeps_abandon s).trans (Keeps.same rfl rfl rfl rfl rfl rfl)
  have h3 := h2.trans (keeps_stopSchedule _)
  generalize s.abandon.stopScanner.stopSchedule = u at h3
  exact h3.trans (Keeps.same rfl rfl rfl rfl rfl rfl)

theorem keeps_clash (s : State) : Keeps s s.clash := by
  unfold State.clash
  split
  · exact keeps_enterMuted s _
  · exact keeps_enterMuted s _
  · exact Keeps.ite (fun _ => keeps_enterMuted s _) (fun _ => (keeps_interrupt s _).trans (keeps_enterMuted _ _))
  · exact (keeps_interrupt s _).trans (keeps_enterMuted _ _)
  · exact Keeps.refl s

/-! ### The budget -/

theorem keeps_handOn (s : State) (n : Need) : Keeps s (s.handOn n) := by
  unfold State.handOn
  split
  · exact keeps_startBringup s
  · next i =>
    refine Keeps.ite (fun h => keeps_closeSwitch s i ?_) (fun _ => Keeps.refl s)
    rcases h with h | h <;> rw [h] <;> decide
  · split
    · exact keeps_startRetarget s _
    · exact Keeps.refl s
  · exact keeps_addToken s

theorem keeps_applyGrant (s : State) : Keeps s s.applyGrant := by
  unfold State.applyGrant
  dsimp only
  split
  · exact Keeps.refl s
  · refine Keeps.ite (fun _ => ?_) (fun _ => Keeps.refl s)
    refine Keeps.trans ?_ (keeps_handOn _ _); exact Keeps.same rfl rfl rfl rfl rfl rfl

theorem keeps_predict (s : State) (l : List Station) : Keeps s (s.predict l) := keeps_biu s _

theorem keeps_budgetMark (s : State) (f : MarkFacts) : Keeps s (s.budgetMark f) := by
  unfold State.budgetMark
  dsimp only
  refine (keeps_predict s (s.granted f.round)).trans ?_
  generalize s.predict (s.granted f.round) = u
  exact Keeps.ite (fun _ => keeps_applyGrant u) (fun _ => Keeps.refl u)

/-! ### The mark -/

theorem keeps_beginRound (s : State) : Keeps s s.beginRound := by
  unfold State.beginRound
  refine Keeps.trans ?_ (keeps_requestScan _ _); exact Keeps.same rfl rfl rfl rfl rfl rfl

theorem keeps_syncMark (s : State) : Keeps s s.syncMark := by
  unfold State.syncMark
  refine Keeps.trans ?_ (keeps_beginRound _); exact Keeps.same rfl rfl rfl rfl rfl rfl

theorem keeps_countUnheard (s : State) : Keeps s s.countUnheard := by
  unfold State.countUnheard; split <;> exact Keeps.same rfl rfl rfl rfl rfl rfl

theorem keeps_updatePeers (s : State) : Keeps s s.updatePeers := keeps_biu s _

theorem keeps_countMismatch (s : State) : Keeps s s.countMismatch := Keeps.same rfl rfl rfl rfl rfl rfl

theorem keeps_biuMark (s : State) (n : Nat) : Keeps s (s.biuMark n) := by
  unfold State.biuMark
  dsimp only
  refine (keeps_updatePeers s).trans ?_
  generalize s.updatePeers = u
  have h : Keeps u (if u.rcu.state = .listen then u else u.countUnheard.countMismatch) :=
    Keeps.ite (fun _ => Keeps.refl u) (fun _ => (keeps_countUnheard u).trans (keeps_countMismatch _))
  generalize (if u.rcu.state = .listen then u else u.countUnheard.countMismatch) = w at h
  exact h.trans (Keeps.same rfl rfl rfl rfl rfl rfl)

/-- Replacing an entry by its successor raises the sum by at most 1. -/
theorem sum_set_succ (l : List Nat) (p : Nat) : (l.set p (l.getD p 0 + 1)).sum ≤ l.sum + 1 := by
  induction l generalizing p with
  | nil => simp
  | cons a l ih =>
    cases p with
    | zero => simp; omega
    | succ p => have := ih p; simp at this ⊢; omega

theorem earn_keeps (r : SocketRecord) (c : Bool) (p : Nat) : r.Keeps (r.earn c p) where
  credit h := by
    unfold SocketRecord.earn SocketRecord.creditAt
    have := sum_set_succ r.credit p
    cases c
    · simp; omega
    · simp at this ⊢; omega
  failed h := ⟨h, rfl⟩

theorem keeps_judgeRound (s : State) (a b : Bool) : Keeps s (s.judgeRound a b) :=
  keeps_mapRecords s _ (fun i => by
    split
    · exact earn_keeps _ _ _
    · exact SocketRecord.Keeps.refl _)

theorem keeps_joinMark (s : State) : Keeps s s.joinMark := by
  unfold State.joinMark
  refine Keeps.ite (fun _ => ?_) (fun _ => Keeps.refl s)
  exact Keeps.ite (fun _ => Keeps.same rfl rfl rfl rfl rfl rfl) (fun _ => Keeps.same rfl rfl rfl rfl rfl rfl)

theorem retryDue_ne_failed {s : State} {i : Socket} (h : s.retryDue i = true) : s.socketState i ≠ .failed := by
  intro e; simp [State.retryDue, e] at h

theorem keeps_retryMark (s : State) (i : Socket) : Keeps s (s.retryMark i) := by
  unfold State.retryMark
  exact Keeps.ite (fun h => keeps_closeSwitch s i (retryDue_ne_failed h)) (fun _ => Keeps.same rfl rfl rfl rfl rfl rfl)

theorem keeps_retryMarks (s : State) : Keeps s s.retryMarks := by
  unfold State.retryMarks
  exact Keeps.ite (fun _ => Keeps.foldl State.retryMark keeps_retryMark allSockets s) (fun _ => Keeps.refl s)

theorem keeps_placeBringup (s : State) (w : SocketState → Bool) : Keeps s (s.placeBringup w) := by
  unfold State.placeBringup
  have h : Keeps s (s.placeNeed .railBase) := Keeps.same rfl rfl rfl rfl rfl rfl
  refine h.trans ?_
  refine Keeps.foldl _ (fun t i => ?_) allSockets _
  exact Keeps.ite (fun _ => Keeps.same rfl rfl rfl rfl rfl rfl) (fun _ => Keeps.refl t)

theorem keeps_enterBringup (s : State) (b : Bool) : Keeps s (s.enterBringup b) := Keeps.same rfl rfl rfl rfl rfl rfl

theorem keeps_startRun (s : State) (b : Bool) : Keeps s (s.startRun b) := by
  unfold State.startRun
  dsimp only
  generalize highestPhase s.joinPhases = join
  have h1 : Keeps s { s with rcu := s.rcu.start join s.planTargets } := Keeps.same rfl rfl rfl rfl rfl rfl
  have h2 := h1.trans (keeps_mapRecords _ (fun _ => SocketRecord.newCredit (join.getD 0))
    (fun i => ⟨fun _ => by simp [SocketRecord.newCredit], fun h => ⟨h, rfl⟩⟩))
  exact (h2.trans (keeps_placeBringup _ _)).trans (keeps_enterBringup _ b)

theorem keeps_decidePhase (s : State) : Keeps s s.decidePhase := by
  unfold State.decidePhase
  exact Keeps.ite (fun _ => Keeps.refl s)
    (fun _ => Keeps.ite (fun _ => keeps_enterTransition s _) (fun _ => keeps_completeRun s))

theorem keeps_enterRunning (s : State) (n : Nat) : Keeps s (s.enterRunning n) := by
  unfold State.enterRunning
  refine Keeps.trans ?_ (keeps_requestStart _ n); exact Keeps.same rfl rfl rfl rfl rfl rfl

theorem nextPhase_keeps (r : SocketRecord) (n : Nat) : r.Keeps (r.nextPhase n) :=
  ⟨fun h => by simp [SocketRecord.nextPhase]; exact h, fun h => ⟨h, rfl⟩⟩

theorem keeps_enterHeld (s : State) (x : SubState) : Keeps s (s.enterHeld x) := Keeps.same rfl rfl rfl rfl rfl rfl

theorem keeps_arrive (s : State) (t : Nat) (b : Bool) : Keeps s (s.arrive t b) := by
  unfold State.arrive
  dsimp only
  generalize t - s.rcu.phase = gained
  have h1 : Keeps s { s with rcu := s.rcu.arrive t } := Keeps.same rfl rfl rfl rfl rfl rfl
  refine (h1.trans (keeps_mapRecords _ (fun _ r => r.nextPhase gained) (fun i => nextPhase_keeps _ gained))).trans ?_
  exact Keeps.ite (fun _ => keeps_enterHeld _ _) (fun _ => keeps_enterRunning _ _)

theorem keeps_recoveryEnd (s : State) (b : Bool) : Keeps s (s.recoveryEnd b) :=
  (keeps_placeBringup s _).trans (keeps_enterBringup _ b)

theorem keeps_countRecovery (s : State) : Keeps s s.countRecovery := Keeps.same rfl rfl rfl rfl rfl rfl

theorem keeps_runMark (s : State) (a b : Bool) : Keeps s (s.runMark a b) := by
  unfold State.runMark
  split
  · exact Keeps.ite (fun _ => keeps_startRun s a) (fun _ => Keeps.same rfl rfl rfl rfl rfl rfl)
  · split
    · unfold State.bringUpMark
      exact Keeps.ite (fun _ => keeps_enterHeld s _)
        (fun _ => Keeps.ite (fun _ => keeps_enterRunning s _) (fun _ => Keeps.refl s))
    · unfold State.runningMark
      exact Keeps.ite (fun _ => (keeps_enterHeld s _).trans (keeps_requestFinish _)) (fun _ => keeps_decidePhase s)
    · unfold State.transitionMark
      split
      · exact Keeps.ite (fun _ => keeps_arrive s _ a) (fun _ => Keeps.refl s)
      · exact Keeps.refl s
    · unfold State.heldMark
      exact Keeps.ite (fun _ => Keeps.refl s)
        (fun _ => Keeps.ite (fun _ => keeps_enterRunning s _) (fun _ => Keeps.same rfl rfl rfl rfl rfl rfl))
    · unfold State.recoveringMark
      exact (keeps_countRecovery s).trans (Keeps.ite (fun _ => keeps_recoveryEnd _ a) (fun _ => Keeps.refl _))
    · exact Keeps.refl s
  · exact Keeps.refl s

theorem keeps_heatMark (s : State) (b : Option SubState) : Keeps s (s.heatMark b) := by
  unfold State.heatMark
  refine Keeps.ite (fun _ => ?_) (fun _ => Keeps.refl s)
  refine ((keeps_dropIneligible s).trans (keeps_tokenCheck _)).trans ?_
  exact Keeps.ite (fun _ => keeps_setAnchor _) (fun _ => Keeps.refl _)

theorem keeps_openGates (s : State) : Keeps s s.openGates := Keeps.same rfl rfl rfl rfl rfl rfl

theorem keeps_blocksMark (s : State) (f : MarkFacts) (b : Bool) : Keeps s (s.blocksMark f b) := by
  unfold State.blocksMark
  refine (((keeps_budgetMark s f).trans (keeps_retryMarks _)).trans (keeps_joinMark _)).trans ?_
  generalize (s.budgetMark f).retryMarks.joinMark = u
  have h := (keeps_runMark u b u.clashCount).trans (keeps_heatMark _ u.rcu.sub)
  exact (h.trans (keeps_openGates _)).trans (keeps_beginRound _)

theorem keeps_markSignals (s : State) (b : Bool) : Keeps s (s.markSignals b) := by
  unfold State.markSignals
  have h : Keeps s (if b = true then s.interrupt .unheard else s) :=
    Keeps.ite (fun _ => keeps_interrupt s _) (fun _ => Keeps.refl s)
  generalize (if b = true then s.interrupt .unheard else s) = u at h
  exact h.trans (Keeps.ite (fun _ => keeps_clash u) (fun _ => Keeps.refl u))

theorem keeps_loseReply (s : State) : Keeps s s.loseReply := by
  unfold State.loseReply
  exact Keeps.ite (fun _ => Keeps.refl s) (fun _ => Keeps.same rfl rfl rfl rfl rfl rfl)

theorem keeps_laterMark (s : State) (n : Nat) : Keeps s (s.laterMark n) := by
  unfold State.laterMark
  dsimp only
  refine ((keeps_judgeRound s s.rackHold (driftSevereOf n s.prof.period)).trans (keeps_biuMark _ n)).trans ?_
  generalize (s.judgeRound s.rackHold (driftSevereOf n s.prof.period)).biuMark n = u
  split
  · exact (keeps_beginRound u).trans (keeps_enterMuted _ _)
  · exact ((keeps_blocksMark u _ _).trans (keeps_markSignals _ _)).trans (keeps_loseReply _)

/-- An accepted mark keeps all of it. -/
theorem keeps_acceptMark (s : State) (n : Nat) : Keeps s (s.acceptMark n) := by
  unfold State.acceptMark
  exact Keeps.ite (fun _ => keeps_laterMark s n) (fun _ => keeps_syncMark s)

/-! ### Commands -/

/-- A judged command keeps what its effect keeps. -/
theorem keeps_judged (s : State) (c : BitVec 4) (a b : Bool) (e : State × CmdResult) (h : Keeps s e.1) :
    Keeps s (s.judged c a b e) := by
  unfold State.judged
  refine Keeps.ite (fun _ => Keeps.refl s) (fun _ => ?_)
  refine Keeps.ite (fun _ => Keeps.same rfl rfl rfl rfl rfl rfl) (fun _ => ?_)
  refine Keeps.ite (fun _ => Keeps.same rfl rfl rfl rfl rfl rfl) (fun _ => ?_)
  exact h.trans (Keeps.same rfl rfl rfl rfl rfl rfl)

theorem keeps_excludeSocket (s : State) (i : Socket) : Keeps s (s.excludeSocket i).1 := by
  have dropped (h : s.socketState i ≠ .failed) :
      Keeps s (((s.dropSocket i).releaseAllowance i).modRecord i SocketRecord.exclude) := by
    have h1 := (keeps_dropSocket s i).trans (keeps_releaseAllowance _ i)
    refine h1.trans (keeps_modRecord_ne _ i SocketRecord.exclude ?_ (fun _ => rfl) (fun _ => rfl))
    show (s.dropSocket i).acu.records[i].state ≠ _
    rw [dropSocket_records]
    exact h
  have idle (h : s.socketState i ≠ .failed) :
      Keeps s ((s.withdraw (.socket i)).modRecord i SocketRecord.exclude) :=
    (keeps_withdraw s _).trans (keeps_modRecord_ne _ i SocketRecord.exclude h (fun _ => rfl) (fun _ => rfl))
  unfold State.excludeSocket
  split
  · exact Keeps.refl s
  · exact Keeps.refl s
  · next h => exact idle (by rw [h]; decide)
  · next h => exact idle (by rw [h]; decide)
  · next h => exact dropped (by rw [h]; decide)
  · next h => exact dropped (by rw [h]; decide)
  · next h => exact dropped (by rw [h]; decide)
  · next h => exact dropped (by rw [h]; decide)

theorem keeps_includeSocket (s : State) (i : Socket) : Keeps s (s.includeSocket i).1 := by
  unfold State.includeSocket
  split
  · next h _ => exact keeps_modRecord_ne s i SocketRecord.readmit (by rw [h]; decide) (fun _ => rfl) (fun _ => rfl)
  · exact Keeps.refl s
  · exact Keeps.refl s

theorem keeps_takeHead (s : State) : Keeps s s.takeHead.1 := by
  unfold State.takeHead
  split
  · exact ⟨fun h => by unfold State.historyBounded at *; simp; omega, fun _ => SocketRecord.Keeps.refl _, id,
      ⟨rfl, rfl, rfl⟩⟩
  · exact Keeps.refl s

theorem keeps_storePlan (s : State) (e : Option PlanEntry) : Keeps s (s.storePlan e) := by
  unfold State.storePlan; split
  · exact Keeps.same rfl rfl rfl rfl rfl rfl
  · exact Keeps.refl s

theorem keeps_refuseForm (s : State) (c : Byte) : Keeps s (s.refuseForm c) := by
  unfold State.refuseForm
  exact Keeps.ite (fun _ => Keeps.refl s) (fun _ => Keeps.same rfl rfl rfl rfl rfl rfl)

theorem keeps_takePlan (s : State) (args : List Byte) : Keeps s (s.takePlan args) :=
  keeps_judged s 1 _ _ _ (keeps_storePlan s _)

theorem keeps_takeStart (s : State) : Keeps s s.takeStart := keeps_judged s 2 _ _ _ (keeps_rcu s _)

theorem keeps_takeHold (s : State) : Keeps s s.takeHold := keeps_judged s 3 _ _ _ (keeps_rcu s _)

theorem keeps_takeResume (s : State) : Keeps s s.takeResume := keeps_judged s 4 _ _ _ (keeps_rcu s _)

theorem keeps_takeAdvance (s : State) (q : Byte) : Keeps s (s.takeAdvance q) := by
  refine keeps_judged s 5 _ _ _ ?_
  split
  · exact keeps_rcu s _
  · exact Keeps.refl s

theorem keeps_takeAbort (s : State) : Keeps s s.takeAbort := by
  have h := keeps_abortRun s
  unfold State.takeAbort
  generalize s.abortRun = t at h ⊢
  exact keeps_judged s 6 _ _ (t, .accepted) h

theorem keeps_takeExclude (s : State) (b : Byte) : Keeps s (s.takeExclude b) := by
  unfold State.takeExclude
  exact keeps_judged s 7 _ _ _ (keeps_excludeSocket s _)

theorem keeps_takeInclude (s : State) (b : Byte) : Keeps s (s.takeInclude b) := by
  unfold State.takeInclude
  exact keeps_judged s 8 _ _ _ (keeps_includeSocket s _)

theorem keeps_takeRead (s : State) (b : Byte) : Keeps s (s.takeRead b) := by
  unfold State.takeRead
  exact keeps_judged s 9 _ _ _ (Keeps.same rfl rfl rfl rfl rfl rfl)

theorem keeps_takeTake (s : State) : Keeps s s.takeTake := by
  unfold State.takeTake
  exact keeps_judged s 10 _ _ _ (keeps_takeHead s)

/-- Any command of good form but CLEAR keeps all of it. -/
theorem keeps_dispatchCommand (s : State) (c : Nat) (args : List Byte) (h : 1 ≤ c ∧ c ≤ 10) :
    Keeps s (s.dispatchCommand c args) := by
  obtain ⟨h1, h2⟩ := h
  match c, h1, h2 with
  | 1, _, _ => exact keeps_takePlan s args
  | 2, _, _ => exact keeps_takeStart s
  | 3, _, _ => exact keeps_takeHold s
  | 4, _, _ => exact keeps_takeResume s
  | 5, _, _ => exact keeps_takeAdvance s _
  | 6, _, _ => exact keeps_takeAbort s
  | 7, _, _ => exact keeps_takeExclude s _
  | 8, _, _ => exact keeps_takeInclude s _
  | 9, _, _ => exact keeps_takeRead s _
  | 10, _, _ => exact keeps_takeTake s

/-! ### Frames -/

theorem keeps_settleTransition (s : State) : Keeps s s.settleTransition := by
  unfold State.settleTransition
  split
  · refine Keeps.ite (fun _ => ?_) (fun _ => Keeps.refl s)
    exact (Keeps.same rfl rfl rfl rfl rfl rfl : Keeps s (s.withdraw _)).trans (keeps_startRetarget _ _)
  · exact Keeps.refl s

theorem keeps_buildFrame (s : State) : Keeps s s.buildFrame := by
  unfold State.buildFrame
  exact Keeps.ite (fun _ => (keeps_settleTransition s).trans (Keeps.same rfl rfl rfl rfl rfl rfl)) (fun _ => Keeps.refl s)

theorem keeps_hearOwn (s : State) : Keeps s s.hearOwn := by
  unfold State.hearOwn
  split
  · exact Keeps.same rfl rfl rfl rfl rfl rfl
  · exact Keeps.refl s

theorem keeps_stopFrame (s : State) : Keeps s s.stopFrame := by
  unfold State.stopFrame
  split
  · exact Keeps.same rfl rfl rfl rfl rfl rfl
  · exact Keeps.same rfl rfl rfl rfl rfl rfl
  · exact Keeps.refl s

theorem keeps_endFrame (s : State) : Keeps s s.endFrame := by
  unfold State.endFrame
  refine Keeps.ite (fun _ => Keeps.refl s) (fun _ => ?_)
  split
  · refine Keeps.trans ?_ (keeps_hearOwn _)
    exact Keeps.same rfl rfl rfl rfl rfl rfl
  · exact Keeps.same rfl rfl rfl rfl rfl rfl
  · exact Keeps.refl s

theorem keeps_hearStatus (s : State) (k : Station) (bytes : List Byte) : Keeps s (s.hearStatus k bytes) := by
  unfold State.hearStatus
  split
  · exact Keeps.refl s
  · exact Keeps.same rfl rfl rfl rfl rfl rfl

/-! ### Readings -/

/-- A reading handed over keeps what its user keeps. -/
theorem keeps_handOver (s : State) (x : ScanInput) (f : State → State) (h : ∀ u, Keeps u (f u)) : Keeps s (s.handOver x f) := by
  unfold State.handOver
  refine Keeps.ite (fun _ => ?_) (fun _ => Keeps.refl s)
  refine Keeps.trans ?_ (h _)
  exact Keeps.same rfl rfl rfl rfl rfl rfl

theorem keeps_readCurrent (s : State) (i : Socket) (c : Half) : Keeps s (s.readCurrent i c) := by
  refine keeps_handOver s _ _ (fun u => ?_)
  refine Keeps.trans ?_ (keeps_superviseCurrent _ i c)
  exact keeps_modRecord u i _ (SocketRecord.Keeps.of_eq rfl rfl rfl rfl)

theorem keeps_tripInstantly (s : State) (i : Socket) (c : Half) : Keeps s (s.tripInstantly i c) := by
  unfold State.tripInstantly
  exact Keeps.ite (fun _ => keeps_trip s i _) (fun _ => Keeps.refl s)

theorem keeps_judgeRail (s : State) (r : Rail) (v : Half) : Keeps s (s.judgeRail r v) := by
  unfold State.judgeRail
  dsimp only
  split
  · exact Keeps.refl s
  · refine Keeps.ite (fun _ => ?_) (fun _ => Keeps.refl s)
    unfold State.afterRamped
    split <;> exact Keeps.same rfl rfl rfl rfl rfl rfl
  · unfold State.superviseRail
    exact Keeps.ite (fun _ => Keeps.same rfl rfl rfl rfl rfl rfl)
      (fun _ => Keeps.ite (fun _ => Keeps.same rfl rfl rfl rfl rfl rfl) (fun _ => keeps_interrupt s _))
  · refine Keeps.ite (fun _ => ?_) (fun _ => Keeps.refl s)
    exact (Keeps.same rfl rfl rfl rfl rfl rfl : Keeps s (s.railIsUp r)).trans (keeps_afterRetargeted _ r)
  · exact Keeps.ite (fun _ => keeps_railDown s r) (fun _ => Keeps.refl s)

theorem keeps_readRail (s : State) (r : Rail) (v : Half) : Keeps s (s.readRail r v) :=
  keeps_handOver s _ _ (fun u => keeps_judgeRail u r v)

theorem keeps_judgeBulk (s : State) (v : Half) : Keeps s (s.judgeBulk v) := by
  unfold State.judgeBulk
  refine Keeps.ite (fun _ => ?_) (fun _ => ?_)
  · refine Keeps.ite (fun _ => Keeps.same rfl rfl rfl rfl rfl rfl) (fun _ => ?_)
    refine Keeps.ite (fun _ => Keeps.same rfl rfl rfl rfl rfl rfl) (fun _ => ?_)
    unfold State.bulkGoesLow
    dsimp only
    have h : Keeps s { s with rlu := { s.rlu with bulkLow := true, lowStreak := 0, highStreak := 0 } } :=
      Keeps.same rfl rfl rfl rfl rfl rfl
    exact h.trans (Keeps.ite (fun _ => Keeps.refl _) (fun _ => keeps_interrupt _ _))
  · refine Keeps.ite (fun _ => ?_) (fun _ => Keeps.same rfl rfl rfl rfl rfl rfl)
    refine Keeps.ite (fun _ => Keeps.same rfl rfl rfl rfl rfl rfl) (fun _ => ?_)
    unfold State.bulkGoesGood
    exact Keeps.ite (fun _ => Keeps.same rfl rfl rfl rfl rfl rfl) (fun _ => Keeps.same rfl rfl rfl rfl rfl rfl)

theorem keeps_readBulk (s : State) (v : Half) : Keeps s (s.readBulk v) :=
  keeps_handOver s _ _ (fun u => keeps_judgeBulk u v)

theorem keeps_judgeBoard (s : State) (c : Half) : Keeps s (s.judgeBoard c) := by
  unfold State.judgeBoard
  refine Keeps.ite (fun _ => Keeps.refl s) (fun _ => ?_)
  refine Keeps.ite (fun _ => Keeps.same rfl rfl rfl rfl rfl rfl) (fun _ => ?_)
  refine Keeps.ite (fun _ => Keeps.same rfl rfl rfl rfl rfl rfl) (fun _ => ?_)
  refine Keeps.trans ?_ (keeps_interrupt _ _); exact Keeps.same rfl rfl rfl rfl rfl rfl

theorem keeps_readBoard (s : State) (c : Half) : Keeps s (s.readBoard c) :=
  keeps_handOver s _ _ (fun u => keeps_judgeBoard u c)

theorem keeps_postBand (s : State) (i : Socket) (r : Option Int) (b : Band) : Keeps s (s.postBand i r b) := by
  unfold State.postBand
  refine (keeps_modHeater s i (takeReading r b s.window) rfl).trans ?_
  generalize s.modHeater i (takeReading r b s.window) = u
  refine (keeps_modRecord u i (SocketRecord.measure u.thu.heaters[i].lastTemp b)
    (SocketRecord.Keeps.of_eq rfl rfl rfl rfl)).trans ?_
  exact Keeps.ite (fun _ => Keeps.refl _) (fun _ => Keeps.same rfl rfl rfl rfl rfl rfl)

theorem keeps_judgeSensor (s : State) (i : Socket) (c : Half) (b : Band) : Keeps s (s.judgeSensor i c b) := by
  unfold State.judgeSensor
  refine Keeps.ite (fun _ => keeps_modHeater s i _ rfl) (fun _ => ?_)
  dsimp only
  refine (keeps_modHeater s i sensorFault rfl).trans ?_
  exact Keeps.ite (fun _ => keeps_writeSocketEntry _ i _ _) (fun _ => Keeps.refl _)

theorem keeps_judgeTrip (s : State) (i : Socket) (r : Option Int) (b : Band) : Keeps s (s.judgeTrip i r b) := by
  unfold State.judgeTrip
  refine Keeps.ite (fun h => ?_) (fun _ => keeps_modHeater s i _ rfl)
  refine Keeps.ite (fun _ => ?_) (fun _ => keeps_failSocket s i _ _ (powered_ne_failed h.1))
  refine Keeps.trans ?_ (keeps_forceOff _ i)
  exact keeps_modHeater s i _ rfl

theorem keeps_noteWarm (s : State) (i : Socket) (b : Band) : Keeps s (s.noteWarm i b) := by
  unfold State.noteWarm
  exact Keeps.ite (fun _ => Keeps.same rfl rfl rfl rfl rfl rfl) (fun _ => Keeps.refl s)

theorem keeps_judgeTemperature (s : State) (i : Socket) (c : Half) : Keeps s (s.judgeTemperature i c) := by
  unfold State.judgeTemperature
  dsimp only
  refine Keeps.trans ?_ (keeps_judgeTrip _ i _ _)
  refine Keeps.trans ?_ (keeps_judgeSensor _ i _ _)
  exact (keeps_postBand s i _ _).trans (keeps_noteWarm _ i _)

theorem keeps_readTemperature (s : State) (i : Socket) (c : Half) : Keeps s (s.readTemperature i c) := by
  refine keeps_handOver s _ _ (fun u => Keeps.trans ?_ (keeps_judgeTemperature _ i c))
  exact Keeps.same rfl rfl rfl rfl rfl rfl

theorem keeps_nextPeriod (s : State) (i : Socket) : Keeps s (s.nextPeriod i) := by
  unfold State.nextPeriod
  exact Keeps.ite (fun _ => Keeps.refl s) 
    (fun _ => keeps_startPeriod _ i (keeps_endHeating s i) (endHeating_phase s i))

/-! ### Passes -/

theorem keeps_judgeMismatch (s : State) (i : Socket) (g : Half) (h : s.socketState i ≠ .failed) :
    Keeps s (s.judgeMismatch i g) := by
  unfold State.judgeMismatch
  refine Keeps.ite (fun _ => keeps_failSocket s i _ _ h) (fun _ => Keeps.ite (fun _ => Keeps.refl s) (fun _ => ?_))
  refine (keeps_writeSocketEntry s i (.soft g s.ptu.inverted) false).trans ?_
  exact keeps_modRecord _ i _ (SocketRecord.Keeps.of_eq rfl rfl rfl rfl)

theorem keeps_checkSocket (s : State) (i : Socket) : Keeps s (s.checkSocket i) := by
  unfold State.checkSocket
  refine Keeps.ite (fun h => ?_) (fun _ => Keeps.refl s)
  refine Keeps.ite (fun _ => keeps_modRecord s i _ (SocketRecord.Keeps.of_eq rfl rfl rfl rfl)) (fun _ => ?_)
  refine (keeps_modRecord s i SocketRecord.mismatched (SocketRecord.Keeps.of_eq rfl rfl rfl rfl)).trans ?_
  refine keeps_judgeMismatch _ i _ ?_
  have h2 : s.acu.records[i].state = .running := h.2
  show (State.modRecord s i SocketRecord.mismatched).acu.records[i].state ≠ _
  rw [State.modRecord_records, if_pos rfl]
  show s.acu.records[i].state ≠ _
  rw [h2]; decide

theorem keeps_postResults (s : State) : Keeps s s.postResults := by
  unfold State.postResults
  exact Keeps.ite (fun _ => Keeps.foldl State.checkSocket keeps_checkSocket allSockets s)
    (fun _ => Keeps.same rfl rfl rfl rfl rfl rfl)

theorem keeps_endPass (s : State) : Keeps s s.endPass := by
  unfold State.endPass
  refine Keeps.ite (fun _ => ?_) (fun _ => Keeps.refl s)
  dsimp only
  refine (keeps_postResults s).trans ?_
  refine Keeps.ite (fun _ => (keeps_stopEngine _).trans (keeps_stopComplete _)) (fun _ => ?_)
  unfold State.startNextPass
  refine Keeps.trans ?_ (keeps_raiseFirst _)
  refine Keeps.trans ?_ (keeps_beginPass _)
  exact Keeps.same rfl rfl rfl rfl rfl rfl

/-! ### The clock -/

theorem keeps_dutTick (s : State) : Keeps s s.dutTick.1 := by
  unfold State.dutTick
  split
  · dsimp only
    split
    · exact Keeps.same rfl rfl rfl rfl rfl rfl
    · split
      · exact Keeps.same rfl rfl rfl rfl rfl rfl
      · split <;> exact Keeps.same rfl rfl rfl rfl rfl rfl
  · exact Keeps.refl s

theorem keeps_mapPower (s : State) (f : Socket → SocketPower → SocketPower) : Keeps s (s.mapPower f) :=
  Keeps.same rfl rfl rfl rfl rfl rfl

theorem keeps_mapRails (s : State) (f : RailUnit → RailUnit) : Keeps s (s.mapRails f) :=
  Keeps.same rfl rfl rfl rfl rfl rfl

theorem keeps_queueUp (s : State) (cs : List Instr) : Keeps s (s.queueUp cs) := Keeps.same rfl rfl rfl rfl rfl rfl

theorem keeps_countTimers (s : State) : Keeps s s.countTimers := by
  unfold State.countTimers
  exact ((keeps_mapPower s _).trans (keeps_mapRails _ _)).trans (keeps_mapHeaters _ _ (fun _ _ => rfl))

theorem keeps_restTimers (s : State) : Keeps s s.restTimers := by
  unfold State.restTimers
  exact ((keeps_mapPower s _).trans (keeps_mapRails _ _)).trans (keeps_mapHeaters _ _ (fun _ _ => rfl))

theorem keeps_countPorts (s : State) : Keeps s s.countPorts :=
  ⟨id, fun _ => SocketRecord.Keeps.refl _, id, ⟨rfl, rfl, rfl⟩⟩

theorem keeps_passTime (s : State) : Keeps s s.passTime := by
  unfold State.passTime
  dsimp only
  exact ((((keeps_dutTick s).trans (keeps_countTimers _)).trans (keeps_biu _ _)).trans (keeps_countPorts _)).trans
    (keeps_queueUp _ _)

/-- A step without a command keeps all of it. -/
theorem keeps_tick (s : State) : Keeps s s.tick := by
  unfold State.tick
  split
  · exact Keeps.same rfl rfl rfl rfl rfl rfl
  · refine Keeps.ite (fun _ => Keeps.same rfl rfl rfl rfl rfl rfl) (fun _ => Keeps.ite (fun _ => ?_) (fun _ => ?_))
    · exact Keeps.ite (fun _ => keeps_queueUp _ _) (fun _ => keeps_passTime s)
    · exact (keeps_restTimers s).trans (keeps_queueUp _ _)

end Sys2Proof.Machine
end

