-- ==== Sys2Proof/Laws/PerInstr.lean ====
section
/-! SUPPORT. Facts of every command as syntax, one lemma for each constructor. -/

namespace Sys2Proof.Laws.CommandRow

open Sys2Proof.Machine

/-- A command's code is one of the eleven of R183; the rows with a code are those that some state takes (R164), and
no state without a frame of its own takes one. -/
def Statement (i : Instr) : Prop :=
  (∀ c, i.commandCode = some c → 1 ≤ c.toNat ∧ c.toNat ≤ 11 ∧ ∃ st, i.takenIn st = true) ∧
  (i.commandCode = none → ∀ st, i.takenIn st = false) ∧
  (∀ st, i.takenIn st = true → st = .idle ∨ st = .active ∨ st = .windDown ∨ st = .done)

/-- A row without a command code. -/
theorem of_none {i : Instr} (hc : i.commandCode = none) (ht : ∀ st, i.takenIn st = false) : Statement i :=
  ⟨fun c h => (by rw [hc] at h; cases h), fun _ => ht, fun st h => (by rw [ht] at h; cases h)⟩

/-- A row with a command code, taken in at least one state. -/
theorem of_some {i : Instr} {c : BitVec 4} (hc : i.commandCode = some c) (h1 : 1 ≤ c.toNat ∧ c.toNat ≤ 11)
    (st : StationState) (hs : i.takenIn st = true)
    (ht : ∀ st, i.takenIn st = true → st = .idle ∨ st = .active ∨ st = .windDown ∨ st = .done) : Statement i :=
  ⟨fun d h => (by rw [hc] at h; cases h; exact ⟨h1.1, h1.2, st, hs⟩), fun h => (by rw [hc] at h; cases h), ht⟩

theorem pinReset : Statement .pinReset := of_none rfl (fun _ => rfl)

theorem resetRelease (slot : Slot) (rate : Bool) : Statement (.resetRelease slot rate) := of_none rfl (fun _ => rfl)

theorem profileLoadEnd (memory : List Byte) : Statement (.profileLoadEnd memory) := of_none rfl (fun _ => rfl)

theorem roundTimerExpiry : Statement .roundTimerExpiry := of_none rfl (fun _ => rfl)

theorem mark : Statement .mark := of_none rfl (fun _ => rfl)

theorem joinWaitEnd : Statement .joinWaitEnd := of_none rfl (fun _ => rfl)

theorem recoveringEnd : Statement .recoveringEnd := of_none rfl (fun _ => rfl)

theorem retryWaitEnd (socket : Socket) : Statement (.retryWaitEnd socket) := of_none rfl (fun _ => rfl)

theorem halfRoundScan : Statement .halfRoundScan := of_none rfl (fun _ => rfl)

theorem statusFrameBuild : Statement .statusFrameBuild := of_none rfl (fun _ => rfl)

theorem readbackMismatch : Statement .readbackMismatch := of_none rfl (fun _ => rfl)

theorem statusFrameEnd : Statement .statusFrameEnd := of_none rfl (fun _ => rfl)

theorem frameReceived (slot : Slot) (bytes : List Byte) : Statement (.frameReceived slot bytes) := of_none rfl (fun _ => rfl)

theorem frameBroken (slot : Slot) : Statement (.frameBroken slot) := of_none rfl (fun _ => rfl)

theorem cmdPlan (args : List Byte) : Statement (.cmdPlan args) :=
  of_some rfl (by decide) .idle rfl (fun st h => by cases st <;> first | decide | cases h)

theorem cmdStart : Statement .cmdStart :=
  of_some rfl (by decide) .idle rfl (fun st h => by cases st <;> first | decide | cases h)

theorem cmdHold : Statement .cmdHold :=
  of_some rfl (by decide) .idle rfl (fun st h => by cases st <;> first | decide | cases h)

theorem cmdResume : Statement .cmdResume :=
  of_some rfl (by decide) .idle rfl (fun st h => by cases st <;> first | decide | cases h)

theorem cmdAdvance (phase : Byte) : Statement (.cmdAdvance phase) :=
  of_some rfl (by decide) .active rfl (fun st h => by cases st <;> first | decide | cases h)

theorem cmdAbort : Statement .cmdAbort :=
  of_some rfl (by decide) .active rfl (fun st h => by cases st <;> first | decide | cases h)

theorem cmdExclude (socket : Byte) : Statement (.cmdExclude socket) :=
  of_some rfl (by decide) .idle rfl (fun st h => by cases st <;> first | decide | cases h)

theorem cmdInclude (socket : Byte) : Statement (.cmdInclude socket) :=
  of_some rfl (by decide) .idle rfl (fun st h => by cases st <;> first | decide | cases h)

theorem cmdRead (socket : Byte) : Statement (.cmdRead socket) :=
  of_some rfl (by decide) .idle rfl (fun st h => by cases st <;> first | decide | cases h)

theorem cmdTake : Statement .cmdTake :=
  of_some rfl (by decide) .idle rfl (fun st h => by cases st <;> first | decide | cases h)

theorem cmdClear : Statement .cmdClear :=
  of_some rfl (by decide) .done rfl (fun st h => by cases st <;> first | decide | cases h)

theorem invalidCommand (code : Byte) : Statement (.invalidCommand code) := of_none rfl (fun _ => rfl)

theorem socketCurrentReading (socket : Socket) (current : Half) : Statement (.socketCurrentReading socket current) := of_none rfl (fun _ => rfl)

theorem instantTrip (socket : Socket) (current : Half) : Statement (.instantTrip socket current) := of_none rfl (fun _ => rfl)

theorem socketSettleEnd (socket : Socket) : Statement (.socketSettleEnd socket) := of_none rfl (fun _ => rfl)

theorem railReading (rail : Rail) (voltage : Half) : Statement (.railReading rail voltage) := of_none rfl (fun _ => rfl)

theorem railSettleTimeout (rail : Rail) : Statement (.railSettleTimeout rail) := of_none rfl (fun _ => rfl)

theorem railFallTimeout (rail : Rail) : Statement (.railFallTimeout rail) := of_none rfl (fun _ => rfl)

theorem bulkReading (voltage : Half) : Statement (.bulkReading voltage) := of_none rfl (fun _ => rfl)

theorem boardCurrentReading (current : Half) : Statement (.boardCurrentReading current) := of_none rfl (fun _ => rfl)

theorem temperatureReading (socket : Socket) (code : Half) : Statement (.temperatureReading socket code) := of_none rfl (fun _ => rfl)

theorem scanCompletion : Statement .scanCompletion := of_none rfl (fun _ => rfl)

theorem heaterPeriodStart (heater : Socket) : Statement (.heaterPeriodStart heater) := of_none rfl (fun _ => rfl)

theorem heaterOnEnd (heater : Socket) : Statement (.heaterOnEnd heater) := of_none rfl (fun _ => rfl)

theorem passEnd : Statement .passEnd := of_none rfl (fun _ => rfl)

theorem doorChange (asserted : Bool) : Statement (.doorChange asserted) := of_none rfl (fun _ => rfl)

theorem framingError (slot : Slot) : Statement (.framingError slot) := of_none rfl (fun _ => rfl)

end Sys2Proof.Laws.CommandRow
end

