-- ==== Sys2Proof/Laws/Profile.lean ====
section
/-! SUPPORT. The profile load said once: what is read from a memory, what an image spells, and when it is judged good (R175 to
R178, R187, R188). -/

namespace Sys2Proof.Machine

/-! ### Bytes at offsets -/

theorem byteAt_drop (l : List Byte) (n i : Nat) : byteAt (l.drop n) i = byteAt l (n + i) := by
  unfold byteAt; rw [List.getD_eq_getElem?_getD, List.getD_eq_getElem?_getD, List.getElem?_drop]

theorem u16At_drop (l : List Byte) (n i : Nat) : u16At (l.drop n) i = u16At l (n + i) := by
  unfold u16At; rw [byteAt_drop, byteAt_drop, Nat.add_assoc]

theorem byteAt_lt (l : List Byte) (i : Nat) : byteAt l i < 256 := (l.getD i 0).isLt

theorem u16At_lt (l : List Byte) (i : Nat) : u16At l i < 65536 := by
  have := byteAt_lt l i; have := byteAt_lt l (i + 1); unfold u16At; omega

/-! ### Loops and vectors -/

theorem loopAt_drop (l : List Byte) (n o : Nat) : loopAt (l.drop n) o = loopAt l (n + o) := by
  unfold loopAt; simp only [u16At_drop, byteAt_drop, Nat.add_assoc]

theorem vectorAt_drop (l : List Byte) (n o : Nat) : vectorAt (l.drop n) o = vectorAt l (n + o) := by
  unfold vectorAt; simp only [byteAt_drop, Nat.add_assoc, List.getD_eq_getElem?_getD, List.getElem?_drop]

/-- The loops read front to back stand nine bytes apart (R187). -/
theorem loopsOf_getElem? (n k : Nat) (l : List Byte) :
    (loopsOf n l)[k]? = if k < n then some (loopAt l (9 * k)) else none := by
  induction n generalizing k l with
  | zero => rfl
  | succ n ih =>
    cases k with
    | zero => rfl
    | succ k =>
      rw [show loopsOf (n + 1) l = loopAt l 0 :: loopsOf n (l.drop 9) from rfl, List.getElem?_cons_succ, ih, loopAt_drop,
        show 9 + 9 * k = 9 * (k + 1) by omega]
      simp only [Nat.add_lt_add_iff_right]

/-- The vectors read front to back stand three bytes apart (R187). -/
theorem vectorsOf_getElem? (n k : Nat) (l : List Byte) :
    (vectorsOf n l)[k]? = if k < n then some (vectorAt l (3 * k)) else none := by
  induction n generalizing k l with
  | zero => rfl
  | succ n ih =>
    cases k with
    | zero => rfl
    | succ k =>
      rw [show vectorsOf (n + 1) l = vectorAt l 0 :: vectorsOf n (l.drop 3) from rfl, List.getElem?_cons_succ, ih, vectorAt_drop,
        show 3 + 3 * k = 3 * (k + 1) by omega]
      simp only [Nat.add_lt_add_iff_right]

theorem loopsOf_length (n : Nat) (l : List Byte) : (loopsOf n l).length = n := by
  induction n generalizing l with
  | zero => rfl
  | succ n ih => exact congrArg (· + 1) (ih _)

theorem vectorsOf_length (n : Nat) (l : List Byte) : (vectorsOf n l).length = n := by
  induction n generalizing l with
  | zero => rfl
  | succ n ih => exact congrArg (· + 1) (ih _)

/-- No vector's flag byte has any of bits 7 to 1 set (R188). -/
theorem vectorFlagsOk_iff (n : Nat) (l : List Byte) :
    vectorFlagsOk n l = true ↔ ∀ k, k < n → byteAt l (3 * k + 1) < 2 := by
  induction n generalizing l with
  | zero => exact iff_of_true rfl (fun k h => absurd h (Nat.not_lt_zero k))
  | succ n ih =>
    unfold vectorFlagsOk
    rw [Bool.and_eq_true, decide_eq_true_iff, ih]
    constructor
    · rintro ⟨h0, h⟩ (_ | k) hk
      · exact h0
      · have := h k (by omega); rw [byteAt_drop] at this; convert this using 2; omega
    · intro h
      refine ⟨h 0 (by omega), fun k hk => ?_⟩
      have := h (k + 1) (by omega); rw [byteAt_drop]; convert this using 2; omega

/-! ### The image -/

/-- The profile parsed from an image is the one the image spells (R187). -/
theorem parseProfile_spelledBy (image : List Byte) : (parseProfile image).spelledBy image := by
  have e : ∀ i, (BitVec.ofNat 16 (u16At image i)).toNat = u16At image i := fun i => by
    rw [BitVec.toNat_ofNat]; exact Nat.mod_eq_of_lt (u16At_lt _ _)
  refine ⟨rfl, rfl, rfl, rfl, e _, ?_, rfl, ?_, rfl, ?_, rfl, rfl, rfl, rfl, rfl, rfl, rfl, rfl, rfl, rfl, rfl, rfl, rfl, rfl,
    rfl, loopsOf_length _ _, vectorsOf_length _ _, ?_, ?_⟩
  · intro r l; fin_cases r <;> fin_cases l <;> rfl
  · intro r; fin_cases r <;> rfl
  · intro l; fin_cases l <;> exact ⟨rfl, rfl⟩
  · intro k l h
    change (loopsOf _ _)[k]? = _ at h
    rw [loopsOf_getElem?] at h
    split at h
    · injection h with h; subst h
      rw [loopAt_drop]
      unfold loopAt
      exact ⟨rfl, rfl, rfl, e _, e _⟩
    · cases h
  · intro k v h
    change (vectorsOf _ _)[k]? = _ at h
    rw [vectorsOf_getElem?] at h
    split at h
    · injection h with h; subst h
      rw [vectorAt_drop]
      exact ⟨rfl, rfl, rfl⟩
    · cases h

/-- An image spells one profile (R187). -/
theorem spelledBy_eq {p q : Profile} {image : List Byte} (hp : p.spelledBy image) (hq : q.spelledBy image) : p = q := by
  obtain ⟨b, pe, lo, jo, en, lv, tl, rs, ss, ba, op, td, rl, rw', il, rc, bt, no, hp', hs, mt, tm, ft, re, id, ll, vl, ls, vs⟩ := hp
  obtain ⟨b', pe', lo', jo', en', lv', tl', rs', ss', ba', op', td', rl', rw2, il', rc', bt', no', hp2, hs', mt', tm', ft', re', id', ll', vl', ls', vs'⟩ := hq
  have hl : p.loops = q.loops := by
    apply List.ext_getElem (by rw [ll, ll'])
    intro k h h'
    have x := ls k _ (List.getElem?_eq_getElem h)
    have y := ls' k _ (List.getElem?_eq_getElem h')
    obtain ⟨x1, x2, x3, x4, x5⟩ := x
    obtain ⟨y1, y2, y3, y4, y5⟩ := y
    generalize p.loops[k] = a at *
    generalize q.loops[k] = c at *
    cases a; cases c
    simp only at *
    subst x1 x2 x3 y1 y2 y3
    rw [BitVec.eq_of_toNat_eq (x4.trans y4.symm), BitVec.eq_of_toNat_eq (x5.trans y5.symm)]
  have hv : p.vectors = q.vectors := by
    apply List.ext_getElem (by rw [vl, vl'])
    intro k h h'
    have x := vs k _ (List.getElem?_eq_getElem h)
    have y := vs' k _ (List.getElem?_eq_getElem h')
    obtain ⟨x1, x2, x3⟩ := x
    obtain ⟨y1, y2, y3⟩ := y
    generalize p.vectors[k] = a at *
    generalize q.vectors[k] = c at *
    cases a; cases c
    simp only at *
    rw [BitVec.eq_of_toNat_eq (x1.trans y1.symm), x2, x3, y2, y3]
  have hlv : p.levels = q.levels := by
    apply Vector.ext; intro i hi; apply Vector.ext; intro j hj
    exact (lv ⟨i, hi⟩ ⟨j, hj⟩).trans (lv' ⟨i, hi⟩ ⟨j, hj⟩).symm
  have hrs : p.railSettle = q.railSettle := by
    apply Vector.ext; intro i hi; exact (rs ⟨i, hi⟩).trans (rs' ⟨i, hi⟩).symm
  have hba : p.base = q.base := by
    apply Vector.ext; intro i hi; exact ((ba ⟨i, hi⟩).1).trans (ba' ⟨i, hi⟩).1.symm
  have hal : p.allowance = q.allowance := by
    apply Vector.ext; intro i hi; exact ((ba ⟨i, hi⟩).2).trans (ba' ⟨i, hi⟩).2.symm
  have hen := BitVec.eq_of_toNat_eq (en.trans en'.symm)
  have hid := BitVec.eq_of_toNat_eq (id.trans id'.symm)
  cases p; cases q
  simp only at *
  subst_vars
  rfl

/-! ### The memory and the judgement -/

theorem readMemory_length (m : List Byte) (n : Nat) : (readMemory m n).length = n := by
  unfold readMemory; simp; omega

/-- A byte read is the memory's, or all ones where the memory gives none (R175). -/
theorem readMemory_getElem? (m : List Byte) {n i : Nat} (h : i < n) :
    (readMemory m n)[i]? = some (clockIn (m.getD i 0xFF)) := by
  unfold readMemory
  rw [List.getElem?_map, List.getElem?_append, List.getD_eq_getElem?_getD]
  simp only [List.length_take, List.getElem?_take, List.getElem?_replicate]
  by_cases hm : i < m.length
  · simp [h, hm]
  · simp only [lt_min_iff, h, hm, and_false, if_false]
    rw [if_pos (by omega), List.getElem?_eq_none (by omega)]; rfl

/-- What is read at an offset does not depend on how much is read (R175). -/
theorem readMemory_byteAt (m : List Byte) {n k i : Nat} (h : i < n) (h' : i < k) :
    byteAt (readMemory m n) i = byteAt (readMemory m k) i := by
  unfold byteAt
  rw [List.getD_eq_getElem?_getD, List.getD_eq_getElem?_getD, readMemory_getElem? m h, readMemory_getElem? m h']

theorem readMemory_u16At (m : List Byte) {n k i : Nat} (h : i + 1 < n) (h' : i + 1 < k) :
    u16At (readMemory m n) i = u16At (readMemory m k) i := by
  unfold u16At
  rw [readMemory_byteAt m h h', readMemory_byteAt m (by omega : i < n) (by omega : i < k)]

/-- A memory is judged good exactly when its length, the CRC, the counts, the flag bytes, the ranges and the cross-checks hold,
and the profile is then the one the image spells (R175 to R178, R187, R188). -/
theorem judgeProfile_iff (rate : Bool) (memory image : List Byte) (p : Profile) :
    judgeProfile rate memory = some (p, image) ↔
      let length := u16At (readMemory memory 5) 0
      80 ≤ length ∧ length ≤ 16384 ∧ image = readMemory memory length ∧ p.spelledBy image ∧
      (crc (image.take (length - 2))).toNat = u16At image (length - 2) ∧ p.loops.length ≤ 8 ∧ p.vectors.length ≤ 4096 ∧
      length = imageLength p.loops.length p.vectors.length ∧
      vectorFlagsOk p.vectors.length (image.drop (78 + 9 * p.loops.length)) = true ∧
      p.inRange = true ∧ p.crossChecks rate = true := by
  unfold judgeProfile
  dsimp only
  generalize u16At (readMemory memory 5) 0 = length
  change (if length < 80 ∨ 16384 < length then _ else _) = _ ↔ _
  by_cases hb : length < 80 ∨ 16384 < length
  · rw [if_pos hb]; constructor
    · intro h; cases h
    · rintro ⟨h, h', -⟩; omega
  · rw [if_neg hb]
    have hll : (parseProfile (readMemory memory length)).loops.length = byteAt (readMemory memory 5) 2 :=
      (loopsOf_length _ _).trans (readMemory_byteAt memory (by omega) (by omega))
    have hvl : (parseProfile (readMemory memory length)).vectors.length = u16At (readMemory memory 5) 3 :=
      (vectorsOf_length _ _).trans (readMemory_u16At memory (by omega) (by omega))
    constructor
    · intro h
      split at h
      · next c =>
        injection h with h; injection h with hp hi; subst hp hi
        rw [hll, hvl]
        exact ⟨by omega, by omega, rfl, parseProfile_spelledBy _, c⟩
      · cases h
    · rintro ⟨-, -, rfl, hs, c⟩
      have hp := spelledBy_eq hs (parseProfile_spelledBy _)
      subst hp
      rw [hll, hvl] at c
      rw [if_pos c]

end Sys2Proof.Machine
end

