-- ==== Sys2Proof/Laws/Switches.lean ====
section
/-! SUPPORT. The second law's switch part, said once for each shared operation: a switch that is closed exactly while its
socket is powered is so again after it (R82, R133). -/

namespace Sys2Proof.Machine

/-- A socket's switch agrees with its record. -/
def State.agrees (s : State) (i : Socket) : Prop := s.rlu.sockets[i].closed = s.acu.records[i].state.powered

/-- What an operation keeps, socket by socket. -/
def Agrees (s t : State) : Prop := ∀ i : Socket, s.agrees i → t.agrees i

theorem Agrees.refl (s : State) : Agrees s s := fun _ h => h

theorem Agrees.trans {s t u : State} (a : Agrees s t) (b : Agrees t u) : Agrees s u := fun i h => b i (a i h)

/-- The law over all sockets is kept. -/
theorem Agrees.switchesAgree {s t : State} (a : Agrees s t) (h : s.switchesAgree) : t.switchesAgree := fun i => a i (h i)

/-- An operation that leaves the switches and the records. -/
theorem Agrees.same {s t : State} (hp : t.rlu.sockets = s.rlu.sockets) (hr : t.acu.records = s.acu.records) :
    Agrees s t := fun i h => by unfold State.agrees at *; rw [hp, hr]; exact h

theorem agrees_biu (s : State) (b : Biu) : Agrees s { s with biu := b } := Agrees.same rfl rfl

theorem agrees_rcu (s : State) (r : Rcu) : Agrees s { s with rcu := r } := Agrees.same rfl rfl

theorem Agrees.ite {s t u : State} {c : Prop} [Decidable c] (ht : c → Agrees s t) (hu : ¬c → Agrees s u) :
    Agrees s (if c then t else u) := by
  split
  · exact ht ‹_›
  · exact hu ‹_›

theorem Agrees.foldl {α : Type} (f : State → α → State) (h : ∀ t a, Agrees t (f t a)) (l : List α) (s : State) :
    Agrees s (l.foldl f s) := by
  induction l generalizing s with
  | nil => exact Agrees.refl s
  | cons a l ih => exact (h s a).trans (ih (f s a))

/-! ### The named updates -/

theorem agrees_modRecord (s : State) (i : Socket) (f : SocketRecord → SocketRecord)
    (h : (f s.acu.records[i]).state.powered = s.acu.records[i].state.powered) : Agrees s (s.modRecord i f) := by
  intro j hj
  unfold State.agrees at *
  rw [State.modRecord_records, State.modRecord_rlu]
  split
  · next e => subst e; rw [h]; exact hj
  · exact hj

theorem agrees_mapRecords (s : State) (f : Socket → SocketRecord → SocketRecord)
    (h : ∀ i r, (f i r).state.powered = r.state.powered) : Agrees s (s.mapRecords f) := by
  intro j hj
  unfold State.agrees at *
  rw [State.mapRecords_records, State.mapRecords_rlu, h]; exact hj

theorem agrees_modPower (s : State) (i : Socket) (f : SocketPower → SocketPower)
    (h : (f s.rlu.sockets[i]).closed = s.rlu.sockets[i].closed) : Agrees s (s.modPower i f) := by
  intro j hj
  unfold State.agrees at *
  rw [State.modPower_sockets, State.modPower_acu]
  split
  · next e => subst e; rw [h]; exact hj
  · exact hj

theorem agrees_mapPower (s : State) (f : Socket → SocketPower → SocketPower)
    (h : ∀ i p, (f i p).closed = p.closed) : Agrees s (s.mapPower f) := by
  intro j hj
  unfold State.agrees at *
  rw [State.mapPower_sockets, State.mapPower_acu, h]; exact hj

/-- A switch and its record change together. -/
theorem agrees_together {s t : State} (i : Socket)
    (ho : ∀ j : Socket, i ≠ j →
      t.rlu.sockets[j].closed = s.rlu.sockets[j].closed ∧ t.acu.records[j].state = s.acu.records[j].state)
    (hi : t.agrees i) : Agrees s t := by
  intro j hj
  by_cases e : i = j
  · subst e; exact hi
  · unfold State.agrees at *
    rw [(ho j e).1, (ho j e).2]; exact hj

theorem agrees_writeEntry (s : State) (e : Entry) : Agrees s (s.writeEntry e) :=
  Agrees.same (by rw [State.writeEntry_rlu]) (State.writeEntry_records s e)

/-! ### Heat -/

theorem serveHead_rlu (s : State) : s.serveHead.rlu = s.rlu := by unfold State.serveHead; split <;> rfl

theorem endHeating_rlu (s : State) (i : Socket) : (s.endHeating i).rlu = s.rlu := by
  unfold State.endHeating State.tokenReturned
  split
  · split
    · rfl
    · exact serveHead_rlu _
  · rfl
  · rfl

theorem endHeating_acu (s : State) (i : Socket) : (s.endHeating i).acu = s.acu := by
  unfold State.endHeating State.tokenReturned
  split
  · split
    · rfl
    · exact (serveHead_same _).2.1
  · rfl
  · rfl

theorem forceOff_rlu (s : State) (i : Socket) : (s.forceOff i).rlu = s.rlu := endHeating_rlu _ i

theorem agrees_endHeating (s : State) (i : Socket) : Agrees s (s.endHeating i) :=
  Agrees.same (by rw [endHeating_rlu]) (by rw [endHeating_acu])

theorem agrees_forceOff (s : State) (i : Socket) : Agrees s (s.forceOff i) :=
  Agrees.same (by rw [forceOff_rlu]) (by rw [forceOff_records])

theorem agrees_startPeriod (s : State) (i : Socket) : Agrees s (s.startPeriod i) := by
  unfold State.startPeriod
  dsimp only
  split
  · exact Agrees.same rfl rfl
  · split <;> exact Agrees.same rfl rfl

theorem agrees_addToken (s : State) : Agrees s s.addToken :=
  Agrees.same (by unfold State.addToken; rw [serveHead_rlu]) (by unfold State.addToken; rw [(serveHead_same _).2.1])

theorem agrees_regulate (s : State) (i : Socket) : Agrees s (s.regulate i) := by
  unfold State.regulate
  refine Agrees.ite (fun _ => ?_) (fun _ => Agrees.refl s)
  split
  · exact Agrees.same rfl rfl
  · exact agrees_forceOff s i

theorem agrees_regulateAll (s : State) : Agrees s s.regulateAll := by
  unfold State.regulateAll
  refine (Agrees.foldl State.regulate agrees_regulate allSockets s).trans ?_
  generalize allSockets.foldl State.regulate s = u
  exact agrees_mapRecords u _ (fun _ _ => rfl)

theorem agrees_dropIneligible (s : State) : Agrees s s.dropIneligible := Agrees.same rfl rfl

theorem agrees_tokenCheck (s : State) : Agrees s s.tokenCheck := by
  unfold State.tokenCheck
  dsimp only
  refine Agrees.ite (fun _ => Agrees.same rfl rfl) (fun _ => ?_)
  refine Agrees.ite (fun _ => Agrees.same rfl rfl) (fun _ => ?_)
  refine Agrees.ite (fun _ => Agrees.same rfl rfl) (fun _ => ?_)
  exact Agrees.ite (fun _ => Agrees.same rfl rfl) (fun _ => Agrees.same rfl rfl)

theorem agrees_setAnchor (s : State) : Agrees s s.setAnchor := by
  unfold State.setAnchor
  dsimp only
  refine Agrees.trans ?_ (agrees_startPeriod _ 0)
  exact Agrees.ite (fun _ => Agrees.same rfl rfl) (fun _ => Agrees.same rfl rfl)

theorem agrees_stopSchedule (s : State) : Agrees s s.stopSchedule := Agrees.same rfl rfl

theorem agrees_stopHeating (s : State) : Agrees s s.stopHeating := Agrees.same rfl rfl

theorem agrees_requestScan (s : State) (k : ScanKind) : Agrees s (s.requestScan k) := by
  unfold State.requestScan; split <;> exact Agrees.same rfl rfl

/-! ### The pattern engine -/

theorem agrees_rejoin (s : State) : Agrees s s.rejoin :=
  agrees_mapRecords s _ (fun i r => by
    split
    · next h => rw [h]; rfl
    · rfl)

theorem agrees_beginPass (s : State) : Agrees s s.beginPass :=
  (agrees_rejoin s).trans (Agrees.same rfl rfl)

theorem agrees_stopEngine (s : State) : Agrees s s.stopEngine := Agrees.same rfl rfl

theorem agrees_abandon (s : State) : Agrees s s.abandon := by
  unfold State.abandon
  exact Agrees.ite (fun _ => Agrees.refl s) (fun _ => Agrees.same rfl rfl)

theorem agrees_startPattern (s : State) (n : Nat) : Agrees s (s.startPattern n) := by
  unfold State.startPattern
  split
  · exact Agrees.refl s
  · next e _ =>
    dsimp only
    split
    · refine Agrees.trans ?_ (agrees_rejoin _); exact Agrees.same rfl rfl
    · refine Agrees.trans ?_ (agrees_beginPass _); exact Agrees.same rfl rfl

theorem agrees_requestStart (s : State) (n : Nat) : Agrees s (s.requestStart n) := by
  unfold State.requestStart
  exact Agrees.ite (fun _ => Agrees.same rfl rfl)
    (fun _ => (agrees_abandon s).trans (agrees_startPattern _ n))

theorem agrees_raiseFirst (s : State) : Agrees s s.raiseFirst := by
  unfold State.raiseFirst; split
  · exact Agrees.same rfl rfl
  · exact Agrees.refl s

/-! ### Switches, trips and rails -/

theorem dropSocket_closed (s : State) (i j : Socket) :
    (s.dropSocket i).rlu.sockets[j].closed = if i = j then false else s.rlu.sockets[j].closed := by
  have e : (s.dropSocket i).rlu = (s.modPower i openPower).rlu := by
    unfold State.dropSocket
    exact forceOff_rlu _ i
  rw [e, State.modPower_sockets]
  split <;> rfl

theorem releaseAllowance_closed (s : State) (i j : Socket) :
    (s.releaseAllowance i).rlu.sockets[j].closed = s.rlu.sockets[j].closed := by
  unfold State.releaseAllowance
  rw [State.modPower_sockets]
  split
  · next e => subst e; rfl
  · rfl

/-- A switch opens as its record leaves the powered states. -/
theorem agrees_dropped (s : State) (i : Socket) (f : SocketRecord → SocketRecord)
    (h : (f s.acu.records[i]).state.powered = false) :
    Agrees s (((s.dropSocket i).releaseAllowance i).modRecord i f) := by
  have hr : ((s.dropSocket i).releaseAllowance i).acu.records = s.acu.records := dropSocket_records s i
  refine agrees_together i (fun j e => ?_) ?_
  · rw [State.modRecord_rlu, State.modRecord_records, releaseAllowance_closed, dropSocket_closed, if_neg e, if_neg e, hr]
    exact ⟨rfl, rfl⟩
  · unfold State.agrees
    rw [State.modRecord_rlu, State.modRecord_records, releaseAllowance_closed, dropSocket_closed, if_pos rfl, if_pos rfl, hr, h]

theorem agrees_closeSwitch (s : State) (i : Socket) : Agrees s (s.closeSwitch i) := by
  unfold State.closeSwitch
  refine agrees_together i (fun j e => ?_) ?_
  · rw [State.modRecord_rlu, State.modRecord_records, State.modPower_sockets, if_neg e, if_neg e]
    exact ⟨rfl, rfl⟩
  · unfold State.agrees
    rw [State.modRecord_rlu, State.modRecord_records, State.modPower_sockets, if_pos rfl, if_pos rfl]
    rfl

theorem agrees_writeSocketEntry (s : State) (i : Socket) (f : Finding) (b : Bool) :
    Agrees s (s.writeSocketEntry i f b) := agrees_writeEntry s _

theorem agrees_writeInterruption (s : State) (c : IntCause) : Agrees s (s.writeInterruption c) := agrees_writeEntry s _

theorem agrees_failSocket (s : State) (i : Socket) (k : FailKind) (f : Finding) : Agrees s (s.failSocket i k f) := by
  unfold State.failSocket
  refine (agrees_writeSocketEntry s i f true).trans ?_
  generalize s.writeSocketEntry i f true = u
  have hr : (((u.modRecord i (fun r => r.fail k u.rcu.phase)).dropSocket i).releaseAllowance i).acu.records =
      (u.modRecord i (fun r => r.fail k u.rcu.phase)).acu.records := dropSocket_records _ i
  refine agrees_together i (fun j e => ?_) ?_
  · rw [hr, State.modRecord_records, releaseAllowance_closed, dropSocket_closed, if_neg e, if_neg e]
    exact ⟨rfl, rfl⟩
  · unfold State.agrees
    rw [hr, State.modRecord_records, releaseAllowance_closed, dropSocket_closed, if_pos rfl, if_pos rfl]
    rfl

theorem agrees_trip (s : State) (i : Socket) (d : Nat) : Agrees s (s.trip i d) := by
  unfold State.trip
  refine Agrees.ite (fun h => ?_) (fun _ => Agrees.refl s)
  dsimp only
  refine Agrees.ite (fun _ => ?_) (fun _ => agrees_failSocket s i _ _)
  generalize hn : s.acu.records[i].retries + 1 = n
  have hr : (((s.modRecord i (SocketRecord.retry n)).writeSocketEntry i (.overcurrent d n) false).dropSocket i).acu.records =
      (s.modRecord i (SocketRecord.retry n)).acu.records := by
    rw [dropSocket_records]; exact State.writeEntry_records _ _
  refine agrees_together i (fun j e => ?_) ?_
  · rw [State.modPower_acu, hr, State.modRecord_records, State.modPower_sockets, if_neg e, if_neg e, dropSocket_closed,
      if_neg e]
    exact ⟨by unfold State.writeSocketEntry; rw [State.writeEntry_rlu]; rfl, rfl⟩
  · unfold State.agrees
    rw [State.modPower_acu, hr, State.modRecord_records, State.modPower_sockets, if_pos rfl, if_pos rfl]
    show (State.dropSocket _ i).rlu.sockets[i].closed = _
    rw [dropSocket_closed, if_pos rfl]
    rfl

/-- A POWERING socket becomes SETTLED or RUNNING. -/
theorem agrees_settleSocket (s : State) (i : Socket) (h : s.socketState i = .powering) : Agrees s (s.settleSocket i) := by
  unfold State.settleSocket
  refine Agrees.trans (agrees_modPower s i _ rfl) (agrees_modRecord _ i _ ?_)
  show (SocketRecord.become _ s.acu.records[i]).state.powered = s.acu.records[i].state.powered
  unfold State.socketState at h
  rw [h]
  show SocketState.powered (if _ then _ else _) = _
  split <;> rfl

theorem agrees_checkOpen (s : State) (i : Socket) (c : Half) (n : Nat) (h : s.socketState i = .powering) :
    Agrees s (s.checkOpen i c n) := by
  unfold State.checkOpen
  exact Agrees.ite (fun _ => agrees_settleSocket s i h)
    (fun _ => Agrees.ite (fun _ => agrees_modPower s i _ rfl) (fun _ => agrees_failSocket s i _ _))

theorem agrees_watchOpen (s : State) (i : Socket) (c : Half) : Agrees s (s.watchOpen i c) := by
  unfold State.watchOpen
  exact Agrees.ite (fun _ => agrees_modPower s i _ rfl)
    (fun _ => Agrees.ite (fun _ => agrees_modPower s i _ rfl) (fun _ => agrees_failSocket s i _ _))

theorem agrees_superviseOpen (s : State) (i : Socket) (c : Half) : Agrees s (s.superviseOpen i c) := by
  unfold State.superviseOpen
  split
  · next h =>
    split
    · exact agrees_checkOpen s i c _ h
    · exact Agrees.refl s
  · exact agrees_watchOpen s i c
  · exact Agrees.refl s

theorem agrees_superviseCurrent (s : State) (i : Socket) (c : Half) : Agrees s (s.superviseCurrent i c) := by
  unfold State.superviseCurrent
  refine Agrees.ite (fun _ => ?_) (fun _ => Agrees.refl s)
  refine Agrees.ite (fun _ => Agrees.ite (fun _ => ?_) (fun _ => agrees_trip s i _)) (fun _ => ?_)
  · exact (agrees_modPower s i _ rfl).trans (agrees_superviseOpen _ i c)
  · exact (agrees_modPower s i _ rfl).trans (agrees_superviseOpen _ i c)

theorem agrees_startBringup (s : State) : Agrees s s.startBringup := by
  unfold State.startBringup
  exact Agrees.ite (fun _ => Agrees.same rfl rfl) (fun _ => Agrees.same rfl rfl)

theorem agrees_retargetComplete (s : State) (t : Nat) : Agrees s (s.retargetComplete t) := by
  unfold State.retargetComplete
  dsimp only
  have h : Agrees s (s.mapPower (fun i p => if (s.socketState i).holds then
      { p with allowance := s.prof.allowance[s.rcu.levelA t], threshold := s.prof.allowance[s.rcu.levelA t] } else p)) :=
    agrees_mapPower s _ (fun i p => by split <;> rfl)
  exact h.trans (Agrees.same rfl rfl)

theorem agrees_takeRetarget (s : State) (t : Nat) (l : List Rail) : Agrees s (s.takeRetarget t l) := by
  induction l with
  | nil => exact agrees_retargetComplete s t
  | cons r l ih =>
    unfold State.takeRetarget
    exact Agrees.ite (fun _ => ih) (fun _ => Agrees.same rfl rfl)

theorem agrees_startRetarget (s : State) (t : Nat) : Agrees s (s.startRetarget t) := by
  unfold State.startRetarget
  dsimp only
  refine Agrees.trans ?_ (agrees_takeRetarget _ t _)
  generalize s.prof.allowance[max (s.rcu.levelA s.rcu.phase) (s.rcu.levelA t)] = a
  have h : Agrees s (s.mapPower (fun i p => if (s.socketState i).holds then
      { p with allowance := a, threshold := a } else p)) :=
    agrees_mapPower s _ (fun i p => by split <;> rfl)
  exact h.trans (Agrees.same rfl rfl)

theorem agrees_afterRetargeted (s : State) (r : Rail) : Agrees s (s.afterRetargeted r) := by
  unfold State.afterRetargeted
  split
  · exact Agrees.ite (fun _ => agrees_takeRetarget s _ _) (fun _ => Agrees.refl s)
  · exact Agrees.refl s

/-! ### Run control -/

/-- Every switch open and no record powered: whatever was before, the law holds. -/
theorem agrees_dark {s t : State} (hc : ∀ i : Socket, t.rlu.sockets[i].closed = false)
    (hs : ∀ i : Socket, t.acu.records[i].state.powered = false) : Agrees s t := fun i _ => by
  unfold State.agrees; rw [hc, hs]

theorem powered_of_not_holds {x : SocketState} (h : ¬x.holds = true) : x.powered = false := by
  cases x <;> simp_all [SocketState.holds, SocketState.powered]

theorem removePower_closed (s : State) (i : Socket) : s.removePower.rlu.sockets[i].closed = false := by
  have ha (t : State) : t.abandon.rlu = t.rlu := by unfold State.abandon; split <;> rfl
  have h : s.removePower.rlu.sockets = (s.mapPower (fun _ p => unpowered p)).rlu.sockets := by
    unfold State.removePower
    show (State.abandon _).rlu.sockets = _
    rw [ha]; rfl
  rw [h, State.mapPower_sockets]; rfl

theorem agrees_interruptActive (s : State) (c : IntCause) : Agrees s (s.interruptActive c) := by
  unfold State.interruptActive
  dsimp only
  have h1 : Agrees s s.removePower.parkSockets := agrees_dark
    (fun i => by unfold State.parkSockets; rw [State.mapRecords_rlu]; exact removePower_closed s i)
    (fun i => by
      unfold State.parkSockets
      rw [State.mapRecords_records]
      split
      · rfl
      · next h => exact powered_of_not_holds h)
  refine h1.trans ?_
  generalize s.removePower.parkSockets = u
  have h3 : Agrees u { u with rcu := u.rcu.interrupted } := Agrees.same rfl rfl
  have h2 := h3.trans (agrees_writeInterruption _ c)
  refine h2.trans ?_
  generalize State.writeInterruption { u with rcu := u.rcu.interrupted } c = w
  refine Agrees.ite (fun _ => ?_) (fun _ => Agrees.same rfl rfl)
  have h4 : Agrees w w.parkedOff :=
    agrees_mapRecords w (fun _ r => if r.state = .parked then { r with state := .off } else r) (fun i r => by
      split
      · next h => rw [h]; rfl
      · rfl)
  exact h4.trans (Agrees.same rfl rfl)

theorem agrees_interruptRecovering (s : State) (c : IntCause) : Agrees s (s.interruptRecovering c) :=
  (agrees_writeInterruption s c).trans (Agrees.same rfl rfl)

theorem agrees_interruptWinddown (s : State) (c : IntCause) : Agrees s (s.interruptWinddown c) := by
  unfold State.interruptWinddown
  have h1 : Agrees s s.removePower.socketsOff := agrees_dark
    (fun i => by unfold State.socketsOff; rw [State.mapRecords_rlu]; exact removePower_closed s i)
    (fun i => by
      unfold State.socketsOff
      rw [State.mapRecords_records]
      split
      · rfl
      · next h => exact powered_of_not_holds (fun e => h (Or.inl e)))
  refine h1.trans ?_
  generalize s.removePower.socketsOff = u
  have h2 : Agrees u { u with rcu := { u.rcu with intCount := u.rcu.intCount + 1 } } := Agrees.same rfl rfl
  exact (h2.trans (agrees_writeInterruption _ c)).trans (Agrees.same rfl rfl)

theorem agrees_interrupt (s : State) (c : IntCause) : Agrees s (s.interrupt c) := by
  unfold State.interrupt
  split
  · exact Agrees.ite (fun _ => agrees_interruptRecovering s c) (fun _ => agrees_interruptActive s c)
  · exact agrees_interruptWinddown s c
  · exact agrees_writeInterruption s c
  · exact agrees_writeInterruption s c
  · exact Agrees.refl s

theorem agrees_finishWinddown (s : State) : Agrees s s.finishWinddown := by
  unfold State.finishWinddown
  exact Agrees.ite (fun _ => Agrees.same rfl rfl) (fun _ => Agrees.refl s)

theorem agrees_takeFalling (s : State) (l : List Rail) : Agrees s (s.takeFalling l) := by
  induction l with
  | nil => exact agrees_finishWinddown s
  | cons r l ih =>
    unfold State.takeFalling
    exact Agrees.ite (fun _ => ih) (fun _ => Agrees.same rfl rfl)

theorem agrees_railDown (s : State) (r : Rail) : Agrees s (s.railDown r) := by
  unfold State.railDown
  refine Agrees.trans ?_ (agrees_takeFalling _ _)
  dsimp only
  split <;> exact Agrees.same rfl rfl

theorem agrees_windStep1 (s : State) : Agrees s s.windStep1 :=
  Agrees.trans (Agrees.same rfl rfl : Agrees s (s.release (s.thu.tokens * s.prof.nominal))) (agrees_stopHeating _)

theorem agrees_windSocket (s : State) (i : Socket) : Agrees s (s.windSocket i) := by
  unfold State.windSocket
  refine Agrees.ite (fun _ => agrees_dropped s i _ rfl) (fun _ => Agrees.ite (fun h => ?_) (fun _ => Agrees.refl s))
  unfold State.socketState at h
  exact agrees_modRecord s i _ (by rw [h]; rfl)

theorem agrees_powerDown (s : State) : Agrees s s.powerDown := by
  unfold State.powerDown
  dsimp only
  have h1 : Agrees s { s with rcu := { s.rcu with poweringDown := true } } := Agrees.same rfl rfl
  have h2 := (h1.trans (agrees_windStep1 _)).trans (Agrees.foldl State.windSocket agrees_windSocket allSockets _)
  generalize allSockets.foldl State.windSocket _ = w at h2 ⊢
  refine Agrees.trans ?_ (agrees_takeFalling _ _)
  exact h2.trans (Agrees.same rfl rfl)

theorem agrees_enterWinddown (s : State) (c : EndCause) : Agrees s (s.enterWinddown c) := Agrees.same rfl rfl

theorem agrees_computeDelta (s : State) (t : Nat) : Agrees s (s.computeDelta t) := by
  unfold State.computeDelta
  exact Agrees.ite (fun _ => Agrees.same rfl rfl) (fun _ => agrees_startRetarget s t)

theorem agrees_stopComplete (s : State) : Agrees s s.stopComplete := by
  unfold State.stopComplete
  split
  · split
    · exact Agrees.ite (fun _ => agrees_computeDelta s _) (fun _ => Agrees.refl s)
    · exact Agrees.refl s
  · exact Agrees.ite (fun _ => Agrees.refl s) (fun _ => agrees_powerDown s)
  · exact Agrees.refl s

theorem agrees_requestFinish (s : State) : Agrees s s.requestFinish := by
  unfold State.requestFinish
  split
  · exact Agrees.same rfl rfl
  · exact (agrees_stopEngine s).trans (agrees_stopComplete _)
  · exact Agrees.refl s
  · exact agrees_stopComplete s

theorem agrees_enterTransition (s : State) (t : Nat) : Agrees s (s.enterTransition t) := by
  unfold State.enterTransition
  refine Agrees.trans ?_ (agrees_requestFinish _); exact Agrees.same rfl rfl

theorem agrees_completeRun (s : State) : Agrees s s.completeRun :=
  (agrees_enterWinddown s _).trans (agrees_requestFinish _)

theorem agrees_abortRun (s : State) : Agrees s s.abortRun :=
  ((agrees_abandon s).trans (agrees_enterWinddown _ _)).trans (agrees_powerDown _)

theorem agrees_enterMuted (s : State) (c : MuteCause) : Agrees s (s.enterMuted c) := by
  unfold State.enterMuted
  have h2 : Agrees s s.abandon.stopScanner := (agrees_abandon s).trans (Agrees.same rfl rfl)
  have h3 := h2.trans (agrees_stopSchedule _)
  generalize s.abandon.stopScanner.stopSchedule = u at h3
  exact h3.trans (Agrees.same rfl rfl)

theorem agrees_clash (s : State) : Agrees s s.clash := by
  unfold State.clash
  split
  · exact agrees_enterMuted s _
  · exact agrees_enterMuted s _
  · exact Agrees.ite (fun _ => agrees_enterMuted s _) (fun _ => (agrees_interrupt s _).trans (agrees_enterMuted _ _))
  · exact (agrees_interrupt s _).trans (agrees_enterMuted _ _)
  · exact Agrees.refl s

/-! ### The budget -/

theorem agrees_handOn (s : State) (n : Need) : Agrees s (s.handOn n) := by
  unfold State.handOn
  split
  · exact agrees_startBringup s
  · exact Agrees.ite (fun _ => agrees_closeSwitch s _) (fun _ => Agrees.refl s)
  · split
    · exact agrees_startRetarget s _
    · exact Agrees.refl s
  · exact agrees_addToken s

theorem agrees_applyGrant (s : State) : Agrees s s.applyGrant := by
  unfold State.applyGrant
  dsimp only
  split
  · exact Agrees.refl s
  · refine Agrees.ite (fun _ => ?_) (fun _ => Agrees.refl s)
    refine Agrees.trans ?_ (agrees_handOn _ _); exact Agrees.same rfl rfl

theorem agrees_predict (s : State) (l : List Station) : Agrees s (s.predict l) := agrees_biu s _

theorem agrees_budgetMark (s : State) (f : MarkFacts) : Agrees s (s.budgetMark f) := by
  unfold State.budgetMark
  dsimp only
  refine (agrees_predict s (s.granted f.round)).trans ?_
  generalize s.predict (s.granted f.round) = u
  exact Agrees.ite (fun _ => agrees_applyGrant u) (fun _ => Agrees.refl u)

/-! ### The mark -/

theorem agrees_beginRound (s : State) : Agrees s s.beginRound := by
  unfold State.beginRound
  refine Agrees.trans ?_ (agrees_requestScan _ _); exact Agrees.same rfl rfl

theorem agrees_syncMark (s : State) : Agrees s s.syncMark := by
  unfold State.syncMark
  refine Agrees.trans ?_ (agrees_beginRound _); exact Agrees.same rfl rfl

theorem agrees_countUnheard (s : State) : Agrees s s.countUnheard := by
  unfold State.countUnheard; split <;> exact Agrees.same rfl rfl

theorem agrees_updatePeers (s : State) : Agrees s s.updatePeers := agrees_biu s _

theorem agrees_countMismatch (s : State) : Agrees s s.countMismatch := Agrees.same rfl rfl

theorem agrees_biuMark (s : State) (n : Nat) : Agrees s (s.biuMark n) := by
  unfold State.biuMark
  dsimp only
  refine (agrees_updatePeers s).trans ?_
  generalize s.updatePeers = u
  have h : Agrees u (if u.rcu.state = .listen then u else u.countUnheard.countMismatch) :=
    Agrees.ite (fun _ => Agrees.refl u) (fun _ => (agrees_countUnheard u).trans (agrees_countMismatch _))
  generalize (if u.rcu.state = .listen then u else u.countUnheard.countMismatch) = w at h
  exact h.trans (Agrees.same rfl rfl)

theorem agrees_judgeRound (s : State) (a b : Bool) : Agrees s (s.judgeRound a b) :=
  agrees_mapRecords s _ (fun i r => by split <;> rfl)

theorem agrees_joinMark (s : State) : Agrees s s.joinMark := by
  unfold State.joinMark
  refine Agrees.ite (fun _ => ?_) (fun _ => Agrees.refl s)
  exact Agrees.ite (fun _ => Agrees.same rfl rfl) (fun _ => Agrees.same rfl rfl)

theorem agrees_retryMark (s : State) (i : Socket) : Agrees s (s.retryMark i) := by
  unfold State.retryMark
  exact Agrees.ite (fun _ => agrees_closeSwitch s i) (fun _ => agrees_modPower s i _ rfl)

theorem agrees_retryMarks (s : State) : Agrees s s.retryMarks := by
  unfold State.retryMarks
  exact Agrees.ite (fun _ => Agrees.foldl State.retryMark agrees_retryMark allSockets s) (fun _ => Agrees.refl s)

theorem agrees_placeBringup (s : State) (w : SocketState → Bool) : Agrees s (s.placeBringup w) := by
  unfold State.placeBringup
  have h : Agrees s (s.placeNeed .railBase) := Agrees.same rfl rfl
  refine h.trans ?_
  refine Agrees.foldl _ (fun t i => ?_) allSockets _
  exact Agrees.ite (fun _ => Agrees.same rfl rfl) (fun _ => Agrees.refl t)

theorem agrees_enterBringup (s : State) (b : Bool) : Agrees s (s.enterBringup b) := Agrees.same rfl rfl

theorem agrees_startRun (s : State) (b : Bool) : Agrees s (s.startRun b) := by
  unfold State.startRun
  dsimp only
  generalize highestPhase s.joinPhases = join
  have h1 : Agrees s { s with rcu := s.rcu.start join s.planTargets } := Agrees.same rfl rfl
  have h2 := h1.trans (agrees_mapRecords _ (fun _ => SocketRecord.newCredit (join.getD 0)) (fun _ _ => rfl))
  exact (h2.trans (agrees_placeBringup _ _)).trans (agrees_enterBringup _ b)

theorem agrees_decidePhase (s : State) : Agrees s s.decidePhase := by
  unfold State.decidePhase
  exact Agrees.ite (fun _ => Agrees.refl s)
    (fun _ => Agrees.ite (fun _ => agrees_enterTransition s _) (fun _ => agrees_completeRun s))

theorem agrees_enterRunning (s : State) (n : Nat) : Agrees s (s.enterRunning n) := by
  unfold State.enterRunning
  refine Agrees.trans ?_ (agrees_requestStart _ n); exact Agrees.same rfl rfl

theorem agrees_enterHeld (s : State) (x : SubState) : Agrees s (s.enterHeld x) := Agrees.same rfl rfl

theorem agrees_arrive (s : State) (t : Nat) (b : Bool) : Agrees s (s.arrive t b) := by
  unfold State.arrive
  dsimp only
  generalize t - s.rcu.phase = gained
  have h1 : Agrees s { s with rcu := s.rcu.arrive t } := Agrees.same rfl rfl
  refine (h1.trans (agrees_mapRecords _ (fun _ r => r.nextPhase gained) (fun _ _ => rfl))).trans ?_
  exact Agrees.ite (fun _ => agrees_enterHeld _ _) (fun _ => agrees_enterRunning _ _)

theorem agrees_recoveryEnd (s : State) (b : Bool) : Agrees s (s.recoveryEnd b) :=
  (agrees_placeBringup s _).trans (agrees_enterBringup _ b)

theorem agrees_countRecovery (s : State) : Agrees s s.countRecovery := Agrees.same rfl rfl

theorem agrees_runMark (s : State) (a b : Bool) : Agrees s (s.runMark a b) := by
  unfold State.runMark
  split
  · exact Agrees.ite (fun _ => agrees_startRun s a) (fun _ => Agrees.same rfl rfl)
  · split
    · unfold State.bringUpMark
      exact Agrees.ite (fun _ => agrees_enterHeld s _)
        (fun _ => Agrees.ite (fun _ => agrees_enterRunning s _) (fun _ => Agrees.refl s))
    · unfold State.runningMark
      exact Agrees.ite (fun _ => (agrees_enterHeld s _).trans (agrees_requestFinish _)) (fun _ => agrees_decidePhase s)
    · unfold State.transitionMark
      split
      · exact Agrees.ite (fun _ => agrees_arrive s _ a) (fun _ => Agrees.refl s)
      · exact Agrees.refl s
    · unfold State.heldMark
      exact Agrees.ite (fun _ => Agrees.refl s)
        (fun _ => Agrees.ite (fun _ => agrees_enterRunning s _) (fun _ => Agrees.same rfl rfl))
    · unfold State.recoveringMark
      exact (agrees_countRecovery s).trans (Agrees.ite (fun _ => agrees_recoveryEnd _ a) (fun _ => Agrees.refl _))
    · exact Agrees.refl s
  · exact Agrees.refl s

theorem agrees_heatMark (s : State) (b : Option SubState) : Agrees s (s.heatMark b) := by
  unfold State.heatMark
  refine Agrees.ite (fun _ => ?_) (fun _ => Agrees.refl s)
  refine ((agrees_dropIneligible s).trans (agrees_tokenCheck _)).trans ?_
  exact Agrees.ite (fun _ => agrees_setAnchor _) (fun _ => Agrees.refl _)

theorem agrees_openGates (s : State) : Agrees s s.openGates := Agrees.same rfl rfl

theorem agrees_blocksMark (s : State) (f : MarkFacts) (b : Bool) : Agrees s (s.blocksMark f b) := by
  unfold State.blocksMark
  refine (((agrees_budgetMark s f).trans (agrees_retryMarks _)).trans (agrees_joinMark _)).trans ?_
  generalize (s.budgetMark f).retryMarks.joinMark = u
  have h := (agrees_runMark u b u.clashCount).trans (agrees_heatMark _ u.rcu.sub)
  exact (h.trans (agrees_openGates _)).trans (agrees_beginRound _)

theorem agrees_markSignals (s : State) (b : Bool) : Agrees s (s.markSignals b) := by
  unfold State.markSignals
  have h : Agrees s (if b = true then s.interrupt .unheard else s) :=
    Agrees.ite (fun _ => agrees_interrupt s _) (fun _ => Agrees.refl s)
  generalize (if b = true then s.interrupt .unheard else s) = u at h
  exact h.trans (Agrees.ite (fun _ => agrees_clash u) (fun _ => Agrees.refl u))

theorem agrees_loseReply (s : State) : Agrees s s.loseReply := by
  unfold State.loseReply
  exact Agrees.ite (fun _ => Agrees.refl s) (fun _ => Agrees.same rfl rfl)

theorem agrees_laterMark (s : State) (n : Nat) : Agrees s (s.laterMark n) := by
  unfold State.laterMark
  dsimp only
  refine ((agrees_judgeRound s s.rackHold (driftSevereOf n s.prof.period)).trans (agrees_biuMark _ n)).trans ?_
  generalize (s.judgeRound s.rackHold (driftSevereOf n s.prof.period)).biuMark n = u
  split
  · exact (agrees_beginRound u).trans (agrees_enterMuted _ _)
  · exact ((agrees_blocksMark u _ _).trans (agrees_markSignals _ _)).trans (agrees_loseReply _)

theorem agrees_acceptMark (s : State) (n : Nat) : Agrees s (s.acceptMark n) := by
  unfold State.acceptMark
  exact Agrees.ite (fun _ => agrees_laterMark s n) (fun _ => agrees_syncMark s)

/-! ### Commands -/

theorem agrees_judged (s : State) (c : BitVec 4) (a b : Bool) (e : State × CmdResult) (h : Agrees s e.1) :
    Agrees s (s.judged c a b e) := by
  unfold State.judged
  refine Agrees.ite (fun _ => Agrees.refl s) (fun _ => ?_)
  refine Agrees.ite (fun _ => Agrees.same rfl rfl) (fun _ => ?_)
  refine Agrees.ite (fun _ => Agrees.same rfl rfl) (fun _ => ?_)
  exact h.trans (Agrees.same rfl rfl)

theorem agrees_excludeSocket (s : State) (i : Socket) : Agrees s (s.excludeSocket i).1 := by
  have idle (h : s.acu.records[i].state.powered = false) :
      Agrees s ((s.withdraw (.socket i)).modRecord i SocketRecord.exclude) :=
    Agrees.trans (Agrees.same rfl rfl) (agrees_modRecord _ i SocketRecord.exclude h.symm)
  unfold State.excludeSocket
  split
  · exact Agrees.refl s
  · exact Agrees.refl s
  · next h => exact idle (by unfold State.socketState at h; rw [h]; rfl)
  · next h => exact idle (by unfold State.socketState at h; rw [h]; rfl)
  · exact agrees_dropped s i _ rfl
  · exact agrees_dropped s i _ rfl
  · exact agrees_dropped s i _ rfl
  · exact agrees_dropped s i _ rfl

theorem agrees_includeSocket (s : State) (i : Socket) : Agrees s (s.includeSocket i).1 := by
  unfold State.includeSocket
  split
  · next h _ =>
    refine agrees_modRecord s i SocketRecord.readmit ?_
    unfold State.socketState at h
    rw [h]; rfl
  · exact Agrees.refl s
  · exact Agrees.refl s

theorem agrees_takeHead (s : State) : Agrees s s.takeHead.1 := by
  unfold State.takeHead
  split
  · exact Agrees.same rfl rfl
  · exact Agrees.refl s

theorem agrees_storePlan (s : State) (e : Option PlanEntry) : Agrees s (s.storePlan e) := by
  unfold State.storePlan; split
  · exact Agrees.same rfl rfl
  · exact Agrees.refl s

theorem agrees_refuseForm (s : State) (c : Byte) : Agrees s (s.refuseForm c) := by
  unfold State.refuseForm
  exact Agrees.ite (fun _ => Agrees.refl s) (fun _ => Agrees.same rfl rfl)

theorem agrees_takePlan (s : State) (args : List Byte) : Agrees s (s.takePlan args) :=
  agrees_judged s 1 _ _ _ (agrees_storePlan s _)

theorem agrees_takeStart (s : State) : Agrees s s.takeStart := agrees_judged s 2 _ _ _ (agrees_rcu s _)

theorem agrees_takeHold (s : State) : Agrees s s.takeHold := agrees_judged s 3 _ _ _ (agrees_rcu s _)

theorem agrees_takeResume (s : State) : Agrees s s.takeResume := agrees_judged s 4 _ _ _ (agrees_rcu s _)

theorem agrees_takeAdvance (s : State) (q : Byte) : Agrees s (s.takeAdvance q) := by
  refine agrees_judged s 5 _ _ _ ?_
  split
  · exact agrees_rcu s _
  · exact Agrees.refl s

theorem agrees_takeAbort (s : State) : Agrees s s.takeAbort := by
  have h := agrees_abortRun s
  unfold State.takeAbort
  generalize s.abortRun = t at h ⊢
  exact agrees_judged s 6 _ _ (t, .accepted) h

theorem agrees_takeExclude (s : State) (b : Byte) : Agrees s (s.takeExclude b) := by
  unfold State.takeExclude
  exact agrees_judged s 7 _ _ _ (agrees_excludeSocket s _)

theorem agrees_takeInclude (s : State) (b : Byte) : Agrees s (s.takeInclude b) := by
  unfold State.takeInclude
  exact agrees_judged s 8 _ _ _ (agrees_includeSocket s _)

theorem agrees_takeRead (s : State) (b : Byte) : Agrees s (s.takeRead b) := by
  unfold State.takeRead
  exact agrees_judged s 9 _ _ _ (Agrees.same rfl rfl)

theorem agrees_takeTake (s : State) : Agrees s s.takeTake := by
  unfold State.takeTake
  exact agrees_judged s 10 _ _ _ (agrees_takeHead s)

theorem agrees_dispatchCommand (s : State) (c : Nat) (args : List Byte) (h : 1 ≤ c ∧ c ≤ 10) :
    Agrees s (s.dispatchCommand c args) := by
  obtain ⟨h1, h2⟩ := h
  match c, h1, h2 with
  | 1, _, _ => exact agrees_takePlan s args
  | 2, _, _ => exact agrees_takeStart s
  | 3, _, _ => exact agrees_takeHold s
  | 4, _, _ => exact agrees_takeResume s
  | 5, _, _ => exact agrees_takeAdvance s _
  | 6, _, _ => exact agrees_takeAbort s
  | 7, _, _ => exact agrees_takeExclude s _
  | 8, _, _ => exact agrees_takeInclude s _
  | 9, _, _ => exact agrees_takeRead s _
  | 10, _, _ => exact agrees_takeTake s

/-! ### Frames -/

theorem agrees_settleTransition (s : State) : Agrees s s.settleTransition := by
  unfold State.settleTransition
  split
  · refine Agrees.ite (fun _ => ?_) (fun _ => Agrees.refl s)
    exact (Agrees.same rfl rfl : Agrees s (s.withdraw _)).trans (agrees_startRetarget _ _)
  · exact Agrees.refl s

theorem agrees_buildFrame (s : State) : Agrees s s.buildFrame := by
  unfold State.buildFrame
  exact Agrees.ite (fun _ => (agrees_settleTransition s).trans (Agrees.same rfl rfl)) (fun _ => Agrees.refl s)

theorem agrees_hearOwn (s : State) : Agrees s s.hearOwn := by
  unfold State.hearOwn
  split
  · exact Agrees.same rfl rfl
  · exact Agrees.refl s

theorem agrees_stopFrame (s : State) : Agrees s s.stopFrame := by
  unfold State.stopFrame
  split
  · exact Agrees.same rfl rfl
  · exact Agrees.same rfl rfl
  · exact Agrees.refl s

theorem agrees_endFrame (s : State) : Agrees s s.endFrame := by
  unfold State.endFrame
  refine Agrees.ite (fun _ => Agrees.refl s) (fun _ => ?_)
  split
  · refine Agrees.trans ?_ (agrees_hearOwn _)
    exact Agrees.same rfl rfl
  · exact Agrees.same rfl rfl
  · exact Agrees.refl s

theorem agrees_hearStatus (s : State) (k : Station) (bytes : List Byte) : Agrees s (s.hearStatus k bytes) := by
  unfold State.hearStatus
  split
  · exact Agrees.refl s
  · exact Agrees.same rfl rfl

/-! ### Readings -/

/-- A reading handed over keeps what its user keeps. -/
theorem agrees_handOver (s : State) (x : ScanInput) (f : State → State) (h : ∀ u, Agrees u (f u)) : Agrees s (s.handOver x f) := by
  unfold State.handOver
  refine Agrees.ite (fun _ => ?_) (fun _ => Agrees.refl s)
  refine Agrees.trans ?_ (h _)
  exact Agrees.same rfl rfl

theorem agrees_readCurrent (s : State) (i : Socket) (c : Half) : Agrees s (s.readCurrent i c) := by
  refine agrees_handOver s _ _ (fun u => ?_)
  refine Agrees.trans ?_ (agrees_superviseCurrent _ i c)
  exact agrees_modRecord u i _ rfl

theorem agrees_tripInstantly (s : State) (i : Socket) (c : Half) : Agrees s (s.tripInstantly i c) := by
  unfold State.tripInstantly
  exact Agrees.ite (fun _ => agrees_trip s i _) (fun _ => Agrees.refl s)

theorem agrees_judgeRail (s : State) (r : Rail) (v : Half) : Agrees s (s.judgeRail r v) := by
  unfold State.judgeRail
  dsimp only
  split
  · exact Agrees.refl s
  · refine Agrees.ite (fun _ => ?_) (fun _ => Agrees.refl s)
    unfold State.afterRamped
    split <;> exact Agrees.same rfl rfl
  · unfold State.superviseRail
    exact Agrees.ite (fun _ => Agrees.same rfl rfl)
      (fun _ => Agrees.ite (fun _ => Agrees.same rfl rfl) (fun _ => agrees_interrupt s _))
  · refine Agrees.ite (fun _ => ?_) (fun _ => Agrees.refl s)
    exact (Agrees.same rfl rfl : Agrees s (s.railIsUp r)).trans (agrees_afterRetargeted _ r)
  · exact Agrees.ite (fun _ => agrees_railDown s r) (fun _ => Agrees.refl s)

theorem agrees_readRail (s : State) (r : Rail) (v : Half) : Agrees s (s.readRail r v) :=
  agrees_handOver s _ _ (fun u => agrees_judgeRail u r v)

theorem agrees_judgeBulk (s : State) (v : Half) : Agrees s (s.judgeBulk v) := by
  unfold State.judgeBulk
  refine Agrees.ite (fun _ => ?_) (fun _ => ?_)
  · refine Agrees.ite (fun _ => Agrees.same rfl rfl) (fun _ => ?_)
    refine Agrees.ite (fun _ => Agrees.same rfl rfl) (fun _ => ?_)
    unfold State.bulkGoesLow
    dsimp only
    have h : Agrees s { s with rlu := { s.rlu with bulkLow := true, lowStreak := 0, highStreak := 0 } } :=
      Agrees.same rfl rfl
    exact h.trans (Agrees.ite (fun _ => Agrees.refl _) (fun _ => agrees_interrupt _ _))
  · refine Agrees.ite (fun _ => ?_) (fun _ => Agrees.same rfl rfl)
    refine Agrees.ite (fun _ => Agrees.same rfl rfl) (fun _ => ?_)
    unfold State.bulkGoesGood
    exact Agrees.ite (fun _ => Agrees.same rfl rfl) (fun _ => Agrees.same rfl rfl)

theorem agrees_readBulk (s : State) (v : Half) : Agrees s (s.readBulk v) :=
  agrees_handOver s _ _ (fun u => agrees_judgeBulk u v)

theorem agrees_judgeBoard (s : State) (c : Half) : Agrees s (s.judgeBoard c) := by
  unfold State.judgeBoard
  refine Agrees.ite (fun _ => Agrees.refl s) (fun _ => ?_)
  refine Agrees.ite (fun _ => Agrees.same rfl rfl) (fun _ => ?_)
  refine Agrees.ite (fun _ => Agrees.same rfl rfl) (fun _ => ?_)
  refine Agrees.trans ?_ (agrees_interrupt _ _); exact Agrees.same rfl rfl

theorem agrees_readBoard (s : State) (c : Half) : Agrees s (s.readBoard c) :=
  agrees_handOver s _ _ (fun u => agrees_judgeBoard u c)

theorem agrees_postBand (s : State) (i : Socket) (r : Option Int) (b : Band) : Agrees s (s.postBand i r b) := by
  unfold State.postBand
  have h1 : Agrees s (s.modHeater i (takeReading r b s.window)) := Agrees.same rfl rfl
  refine h1.trans ?_
  generalize s.modHeater i (takeReading r b s.window) = u
  refine (agrees_modRecord u i (SocketRecord.measure u.thu.heaters[i].lastTemp b) rfl).trans ?_
  exact Agrees.ite (fun _ => Agrees.refl _) (fun _ => Agrees.same rfl rfl)

theorem agrees_judgeSensor (s : State) (i : Socket) (c : Half) (b : Band) : Agrees s (s.judgeSensor i c b) := by
  unfold State.judgeSensor
  refine Agrees.ite (fun _ => Agrees.same rfl rfl) (fun _ => ?_)
  dsimp only
  have h1 : Agrees s (s.modHeater i sensorFault) := Agrees.same rfl rfl
  exact h1.trans (Agrees.ite (fun _ => agrees_writeSocketEntry _ i _ _) (fun _ => Agrees.refl _))

theorem agrees_judgeTrip (s : State) (i : Socket) (r : Option Int) (b : Band) : Agrees s (s.judgeTrip i r b) := by
  unfold State.judgeTrip
  refine Agrees.ite (fun _ => ?_) (fun _ => Agrees.same rfl rfl)
  refine Agrees.ite (fun _ => ?_) (fun _ => agrees_failSocket s i _ _)
  have h : Agrees s (s.modHeater i oneTrip) := Agrees.same rfl rfl
  exact h.trans (agrees_forceOff _ i)

theorem agrees_noteWarm (s : State) (i : Socket) (b : Band) : Agrees s (s.noteWarm i b) := by
  unfold State.noteWarm
  exact Agrees.ite (fun _ => Agrees.same rfl rfl) (fun _ => Agrees.refl s)

theorem agrees_judgeTemperature (s : State) (i : Socket) (c : Half) : Agrees s (s.judgeTemperature i c) := by
  unfold State.judgeTemperature
  dsimp only
  refine Agrees.trans ?_ (agrees_judgeTrip _ i _ _)
  refine Agrees.trans ?_ (agrees_judgeSensor _ i _ _)
  exact (agrees_postBand s i _ _).trans (agrees_noteWarm _ i _)

theorem agrees_readTemperature (s : State) (i : Socket) (c : Half) : Agrees s (s.readTemperature i c) := by
  refine agrees_handOver s _ _ (fun u => Agrees.trans ?_ (agrees_judgeTemperature _ i c))
  exact Agrees.same rfl rfl

theorem agrees_nextPeriod (s : State) (i : Socket) : Agrees s (s.nextPeriod i) := by
  unfold State.nextPeriod
  exact Agrees.ite (fun _ => Agrees.refl s) (fun _ => (agrees_endHeating s i).trans (agrees_startPeriod _ i))

/-! ### Passes -/

theorem agrees_judgeMismatch (s : State) (i : Socket) (g : Half) : Agrees s (s.judgeMismatch i g) := by
  unfold State.judgeMismatch
  refine Agrees.ite (fun _ => agrees_failSocket s i _ _) (fun _ => Agrees.ite (fun _ => Agrees.refl s) (fun _ => ?_))
  exact (agrees_writeSocketEntry s i (.soft g s.ptu.inverted) false).trans (agrees_modRecord _ i _ rfl)

theorem agrees_checkSocket (s : State) (i : Socket) : Agrees s (s.checkSocket i) := by
  unfold State.checkSocket
  refine Agrees.ite (fun _ => ?_) (fun _ => Agrees.refl s)
  refine Agrees.ite (fun _ => agrees_modRecord s i _ rfl) (fun _ => ?_)
  exact (agrees_modRecord s i SocketRecord.mismatched rfl).trans (agrees_judgeMismatch _ i _)

theorem agrees_postResults (s : State) : Agrees s s.postResults := by
  unfold State.postResults
  exact Agrees.ite (fun _ => Agrees.foldl State.checkSocket agrees_checkSocket allSockets s)
    (fun _ => Agrees.same rfl rfl)

theorem agrees_endPass (s : State) : Agrees s s.endPass := by
  unfold State.endPass
  refine Agrees.ite (fun _ => ?_) (fun _ => Agrees.refl s)
  dsimp only
  refine (agrees_postResults s).trans ?_
  refine Agrees.ite (fun _ => (agrees_stopEngine _).trans (agrees_stopComplete _)) (fun _ => ?_)
  unfold State.startNextPass
  refine Agrees.trans ?_ (agrees_raiseFirst _)
  refine Agrees.trans ?_ (agrees_beginPass _)
  exact Agrees.same rfl rfl

/-! ### The clock -/

theorem agrees_dutTick (s : State) : Agrees s s.dutTick.1 := by
  unfold State.dutTick
  split
  · dsimp only
    split
    · exact Agrees.same rfl rfl
    · split
      · exact Agrees.same rfl rfl
      · split <;> exact Agrees.same rfl rfl
  · exact Agrees.refl s

theorem agrees_mapHeaters (s : State) (f : Socket → Heater → Heater) : Agrees s (s.mapHeaters f) := Agrees.same rfl rfl

theorem agrees_mapRails (s : State) (f : RailUnit → RailUnit) : Agrees s (s.mapRails f) := Agrees.same rfl rfl

theorem agrees_queueUp (s : State) (cs : List Instr) : Agrees s (s.queueUp cs) := Agrees.same rfl rfl

theorem agrees_countTimers (s : State) : Agrees s s.countTimers := by
  unfold State.countTimers
  refine Agrees.trans ?_ (agrees_mapHeaters _ _)
  refine Agrees.trans ?_ (agrees_mapRails _ _)
  exact agrees_mapPower s _ (fun _ _ => rfl)

theorem agrees_restTimers (s : State) : Agrees s s.restTimers := by
  unfold State.restTimers
  refine Agrees.trans ?_ (agrees_mapHeaters _ _)
  refine Agrees.trans ?_ (agrees_mapRails _ _)
  exact agrees_mapPower s _ (fun _ _ => rfl)

theorem agrees_passTime (s : State) : Agrees s s.passTime := by
  unfold State.passTime
  dsimp only
  exact ((agrees_dutTick s).trans (agrees_countTimers _)).trans (Agrees.same rfl rfl)

/-- A step without a command keeps it. -/
theorem agrees_tick (s : State) : Agrees s s.tick := by
  unfold State.tick
  split
  · exact Agrees.same rfl rfl
  · exact Agrees.ite (fun _ => Agrees.same rfl rfl) (fun _ => Agrees.ite
      (fun _ => Agrees.ite (fun _ => agrees_queueUp _ _) (fun _ => agrees_passTime s))
      (fun _ => (agrees_restTimers s).trans (agrees_queueUp _ _)))

end Sys2Proof.Machine
end

