-- ==== Sys2Proof/Laws/Rows.lean ====
section
/-! SUPPORT. What every row that clears nothing keeps: the lemmas of the shared operations put together. -/

namespace Sys2Proof.Machine

/-- The rows that neither clear nor latch the straps. -/
def plainRow : Instr → Bool
  | .resetRelease _ _ => false
  | c => !c.mayClear

theorem keeps_hearCommand (s : State) (n : Nat) (b : List Byte)
    (h : (parseCommand n b).any (fun f => f.code == 11) = false) : Keeps s (s.hearCommand n b) := by
  unfold State.hearCommand
  split
  · exact Keeps.refl s
  · next f hf =>
    dsimp only
    have hc : f.code ≠ 11 := by simpa [hf] using h
    have h1 : Keeps s (s.storeCommand n f.round) := Keeps.same rfl rfl rfl rfl rfl rfl
    refine Keeps.ite (fun _ => h1.trans ?_) (fun _ => h1)
    unfold State.takeCommand
    refine Keeps.ite (fun hf => keeps_dispatchCommand _ _ _ ?_) (fun _ => keeps_refuseForm _ _)
    simp [formOk] at hf
    have : f.code.toNat ≠ 11 := fun e => hc (by apply BitVec.eq_of_toNat_eq; simpa using e)
    omega

/-- Every such row keeps what the shared operations keep. -/
theorem exec_keeps (c : Instr) (s t : State) (hc : plainRow c = true) (h : exec c s = .next t) : Keeps s t := by
  cases c <;> simp only [plainRow, Instr.mayClear, Bool.not_true, Bool.not_false, Bool.false_eq_true] at hc <;>
    simp only [exec, execRoundTimerExpiry, execMark, execJoinWaitEnd, execRecoveringEnd, execRetryWaitEnd,
      execHalfRoundScan, execStatusFrameBuild, execReadbackMismatch, execStatusFrameEnd, execFrameReceived,
      execFrameBroken, execCmdPlan, execCmdStart, execCmdHold, execCmdResume, execCmdAdvance, execCmdAbort,
      execCmdExclude, execCmdInclude, execCmdRead, execCmdTake, execInvalidCommand, execSocketCurrentReading,
      execInstantTrip, execSocketSettleEnd, execRailReading, execRailSettleTimeout, execRailFallTimeout,
      execBulkReading, execBoardCurrentReading, execTemperatureReading, execScanCompletion, execHeaterPeriodStart,
      execHeaterOnEnd, execPassEnd, execDoorChange, execFramingError, Host.Outcome.next.injEq] at h <;>
    subst h
  · unfold State.expire
    refine Keeps.ite (fun _ => ?_) (fun _ => Keeps.refl s)
    refine Keeps.trans ?_ (keeps_acceptMark _ _)
    exact Keeps.same rfl rfl rfl rfl rfl rfl
  · unfold State.edge
    exact Keeps.ite (fun _ => Keeps.refl s)
      (fun _ => Keeps.ite (fun _ => Keeps.refl s) (fun _ => keeps_acceptMark _ _))
  · unfold State.endJoinWait
    exact Keeps.ite (fun _ => Keeps.same rfl rfl rfl rfl rfl rfl) (fun _ => Keeps.refl s)
  · unfold State.endRecovering
    exact Keeps.ite (fun _ => (keeps_recoveryEnd s _).trans (keeps_setAnchor _)) (fun _ => Keeps.refl s)
  · unfold State.endRetryWait
    exact Keeps.ite (fun h => keeps_closeSwitch s _ (retryDue_ne_failed h.2)) (fun _ => Keeps.refl s)
  · unfold State.halfRound
    refine Keeps.ite (fun h => ?_) (fun _ => Keeps.refl s)
    refine Keeps.trans ?_ (keeps_requestScan _ _)
    exact Keeps.same rfl rfl rfl rfl rfl rfl
  · exact keeps_buildFrame s
  · exact keeps_stopFrame s
  · exact keeps_endFrame s
  · unfold State.hearFrame
    refine Keeps.ite (fun _ => Keeps.refl s) (fun _ => ?_)
    refine Keeps.ite (fun _ => Keeps.same rfl rfl rfl rfl rfl rfl) (fun _ => ?_)
    refine Keeps.ite (fun _ => Keeps.refl s) (fun _ => Keeps.ite (fun _ => Keeps.refl s) (fun _ => ?_))
    refine Keeps.ite (fun _ => Keeps.refl s) (fun _ => ?_)
    split
    · exact keeps_hearCommand _ _ _ (by simpa using hc)
    · exact keeps_hearStatus _ _ _
  · unfold State.breakFrame
    exact Keeps.ite (fun _ => Keeps.same rfl rfl rfl rfl rfl rfl) (fun _ => Keeps.refl s)
  · exact keeps_takePlan s _
  · exact keeps_takeStart s
  · exact keeps_takeHold s
  · exact keeps_takeResume s
  · exact keeps_takeAdvance s _
  · exact keeps_takeAbort s
  · exact keeps_takeExclude s _
  · exact keeps_takeInclude s _
  · exact keeps_takeRead s _
  · exact keeps_takeTake s
  · exact keeps_refuseForm s _
  · exact keeps_readCurrent s _ _
  · exact keeps_tripInstantly s _ _
  · unfold State.endSettle
    exact Keeps.ite (fun _ => Keeps.same rfl rfl rfl rfl rfl rfl) (fun _ => Keeps.refl s)
  · exact keeps_readRail s _ _
  · unfold State.railFails
    exact Keeps.ite (fun _ => keeps_interrupt s _) (fun _ => Keeps.refl s)
  · unfold State.railFallen
    exact Keeps.ite (fun _ => keeps_railDown s _) (fun _ => Keeps.refl s)
  · exact keeps_readBulk s _
  · exact keeps_readBoard s _
  · exact keeps_readTemperature s _ _
  · unfold State.completeScan
    exact Keeps.ite (fun _ => (keeps_regulateAll s).trans (Keeps.same rfl rfl rfl rfl rfl rfl)) (fun _ => Keeps.refl s)
  · exact keeps_nextPeriod s _
  · unfold State.endOnPhase
    exact Keeps.ite (fun _ => keeps_endHeating s _) (fun _ => Keeps.refl s)
  · exact keeps_endPass s
  · exact Keeps.same rfl rfl rfl rfl rfl rfl
  · unfold State.misframe
    exact Keeps.ite (fun _ => Keeps.same rfl rfl rfl rfl rfl rfl) (fun _ => Keeps.refl s)

theorem agrees_hearCommand (s : State) (n : Nat) (b : List Byte)
    (h : (parseCommand n b).any (fun f => f.code == 11) = false) : Agrees s (s.hearCommand n b) := by
  unfold State.hearCommand
  split
  · exact Agrees.refl s
  · next f hf =>
    dsimp only
    have hc : f.code ≠ 11 := by simpa [hf] using h
    have h1 : Agrees s (s.storeCommand n f.round) := Agrees.same rfl rfl
    refine Agrees.ite (fun _ => h1.trans ?_) (fun _ => h1)
    unfold State.takeCommand
    refine Agrees.ite (fun hf => agrees_dispatchCommand _ _ _ ?_) (fun _ => agrees_refuseForm _ _)
    simp [formOk] at hf
    have : f.code.toNat ≠ 11 := fun e => hc (by apply BitVec.eq_of_toNat_eq; simpa using e)
    omega

/-- Every such row keeps the switches with the records. -/
theorem exec_agrees (c : Instr) (s t : State) (hc : plainRow c = true) (h : exec c s = .next t) : Agrees s t := by
  cases c <;> simp only [plainRow, Instr.mayClear, Bool.not_true, Bool.not_false, Bool.false_eq_true] at hc <;>
    simp only [exec, execRoundTimerExpiry, execMark, execJoinWaitEnd, execRecoveringEnd, execRetryWaitEnd,
      execHalfRoundScan, execStatusFrameBuild, execReadbackMismatch, execStatusFrameEnd, execFrameReceived,
      execFrameBroken, execCmdPlan, execCmdStart, execCmdHold, execCmdResume, execCmdAdvance, execCmdAbort,
      execCmdExclude, execCmdInclude, execCmdRead, execCmdTake, execInvalidCommand, execSocketCurrentReading,
      execInstantTrip, execSocketSettleEnd, execRailReading, execRailSettleTimeout, execRailFallTimeout,
      execBulkReading, execBoardCurrentReading, execTemperatureReading, execScanCompletion, execHeaterPeriodStart,
      execHeaterOnEnd, execPassEnd, execDoorChange, execFramingError, Host.Outcome.next.injEq] at h <;>
    subst h
  · unfold State.expire
    refine Agrees.ite (fun _ => ?_) (fun _ => Agrees.refl s)
    refine Agrees.trans ?_ (agrees_acceptMark _ _)
    exact Agrees.same rfl rfl
  · unfold State.edge
    exact Agrees.ite (fun _ => Agrees.refl s)
      (fun _ => Agrees.ite (fun _ => Agrees.refl s) (fun _ => agrees_acceptMark _ _))
  · unfold State.endJoinWait
    exact Agrees.ite (fun _ => Agrees.same rfl rfl) (fun _ => Agrees.refl s)
  · unfold State.endRecovering
    exact Agrees.ite (fun _ => (agrees_recoveryEnd s _).trans (agrees_setAnchor _)) (fun _ => Agrees.refl s)
  · unfold State.endRetryWait
    exact Agrees.ite (fun _ => agrees_closeSwitch s _) (fun _ => Agrees.refl s)
  · unfold State.halfRound
    refine Agrees.ite (fun h => ?_) (fun _ => Agrees.refl s)
    refine Agrees.trans ?_ (agrees_requestScan _ _)
    exact Agrees.same rfl rfl
  · exact agrees_buildFrame s
  · exact agrees_stopFrame s
  · exact agrees_endFrame s
  · unfold State.hearFrame
    refine Agrees.ite (fun _ => Agrees.refl s) (fun _ => ?_)
    refine Agrees.ite (fun _ => Agrees.same rfl rfl) (fun _ => ?_)
    refine Agrees.ite (fun _ => Agrees.refl s) (fun _ => Agrees.ite (fun _ => Agrees.refl s) (fun _ => ?_))
    refine Agrees.ite (fun _ => Agrees.refl s) (fun _ => ?_)
    split
    · exact agrees_hearCommand _ _ _ (by simpa using hc)
    · exact agrees_hearStatus _ _ _
  · unfold State.breakFrame
    exact Agrees.ite (fun _ => Agrees.same rfl rfl) (fun _ => Agrees.refl s)
  · exact agrees_takePlan s _
  · exact agrees_takeStart s
  · exact agrees_takeHold s
  · exact agrees_takeResume s
  · exact agrees_takeAdvance s _
  · exact agrees_takeAbort s
  · exact agrees_takeExclude s _
  · exact agrees_takeInclude s _
  · exact agrees_takeRead s _
  · exact agrees_takeTake s
  · exact agrees_refuseForm s _
  · exact agrees_readCurrent s _ _
  · exact agrees_tripInstantly s _ _
  · unfold State.endSettle
    exact Agrees.ite (fun _ => agrees_modPower s _ _ rfl) (fun _ => Agrees.refl s)
  · exact agrees_readRail s _ _
  · unfold State.railFails
    exact Agrees.ite (fun _ => agrees_interrupt s _) (fun _ => Agrees.refl s)
  · unfold State.railFallen
    exact Agrees.ite (fun _ => agrees_railDown s _) (fun _ => Agrees.refl s)
  · exact agrees_readBulk s _
  · exact agrees_readBoard s _
  · exact agrees_readTemperature s _ _
  · unfold State.completeScan
    exact Agrees.ite (fun _ => (agrees_regulateAll s).trans (Agrees.same rfl rfl)) (fun _ => Agrees.refl s)
  · exact agrees_nextPeriod s _
  · unfold State.endOnPhase
    exact Agrees.ite (fun _ => agrees_endHeating s _) (fun _ => Agrees.refl s)
  · exact agrees_endPass s
  · exact Agrees.same rfl rfl
  · unfold State.misframe
    exact Agrees.ite (fun _ => Agrees.same rfl rfl) (fun _ => Agrees.refl s)

end Sys2Proof.Machine
end

