-- ==== Sys2Proof/Laws/Trips.lean ====
section
/-! SUPPORT. A socket's loss of power said once: what forcing a heater off, dropping a socket, failing it and tripping it do
(R87 to R90, R97, R100, R104, R135, R149 to R156). -/

namespace Sys2Proof.Machine

/-! ### Heaters -/

/-- What serving the head of the wait queue leaves. -/
theorem serveHead_frame (s : State) : s.serveHead.bdu = s.bdu ∧ s.serveHead.ptu = s.ptu ∧ s.serveHead.rcu = s.rcu ∧
    s.serveHead.biu = s.biu ∧ s.serveHead.scanner = s.scanner := by
  unfold State.serveHead; split <;> exact ⟨rfl, rfl, rfl, rfl, rfl⟩

/-- A heater served keeps its on-times. -/
theorem serveHead_onTime (s : State) (i : Socket) : s.serveHead.thu.heaters[i].onTime = s.thu.heaters[i].onTime ∧
    s.serveHead.thu.heaters[i].inForce = s.thu.heaters[i].inForce := by
  unfold State.serveHead
  split
  · exact ⟨rfl, rfl⟩
  · next h _ _ =>
    rw [State.modHeater_heaters]
    split
    · next e => subst e; exact ⟨rfl, rfl⟩
    · exact ⟨rfl, rfl⟩

/-- Forcing a heater off (R100, R104): its on-times are 0 and, in a wait queue in order, it is off; a token it returned goes to a
pending release, with the nominal current. -/
theorem forceOff_heater (s : State) (i : Socket) :
    let gone := s.thu.releasePending && s.thu.heaters[i].phase == .on
    let t := s.forceOff i
    t.thu.heaters[i].onTime = 0 ∧ t.thu.heaters[i].inForce = 0 ∧ (s.queueMatches → t.thu.heaters[i].phase ≠ .on) ∧
    t.thu.tokens = s.thu.tokens - (if gone then 1 else 0) ∧
    t.bdu = { s.bdu with ownHeld := s.bdu.ownHeld - (if gone then s.prof.nominal else 0) } ∧
    t.ptu = s.ptu ∧ t.rcu = s.rcu ∧ t.biu = s.biu ∧ t.scanner = s.scanner ∧ t.ldr = s.ldr := by
  intro gone
  unfold State.forceOff State.endHeating
  generalize hu : s.modHeater i (fun h => { h with onTime := 0, inForce := 0 }) = u
  have hi : u.thu.heaters[i] = { s.thu.heaters[i] with onTime := 0, inForce := 0 } := by
    rw [← hu, State.modHeater_heaters, if_pos rfl]
  have hg : gone = (u.thu.releasePending && u.thu.heaters[i].phase == .on) := by rw [hi, ← hu]; rfl
  have hb : u.bdu = s.bdu := by rw [← hu]; rfl
  have hrest : u.ptu = s.ptu ∧ u.rcu = s.rcu ∧ u.biu = s.biu ∧ u.scanner = s.scanner ∧ u.ldr = s.ldr := by
    rw [← hu]; exact ⟨rfl, rfl, rfl, rfl, rfl⟩
  have ht : u.thu.tokens = s.thu.tokens := by rw [← hu]; rfl
  have hprof : u.prof = s.prof := by rw [← hu]; rfl
  have hq : s.queueMatches → u.queueMatches := fun h => by
    refine ⟨by rw [← hu]; exact h.1, fun j => ?_⟩
    rw [← hu, State.modHeater_heaters]
    split
    · next e => subst e; exact h.2 _
    · exact h.2 _
  have h0 : u.thu.heaters[i].onTime = 0 ∧ u.thu.heaters[i].inForce = 0 := by rw [hi]; exact ⟨rfl, rfl⟩
  clear_value gone
  subst hg
  rw [← hb, ← ht, ← hprof, ← hrest.1, ← hrest.2.1, ← hrest.2.2.1, ← hrest.2.2.2.1, ← hrest.2.2.2.2]
  clear hu hi hb ht hprof hrest
  dsimp only
  split
  · next hp =>
    rw [hp]
    generalize hv : u.modHeater i turnOff = v
    have vi : v.thu.heaters[i] = turnOff u.thu.heaters[i] := by rw [← hv, State.modHeater_heaters, if_pos rfl]
    have vb : v.bdu = u.bdu ∧ v.ptu = u.ptu ∧ v.rcu = u.rcu ∧ v.biu = u.biu ∧ v.scanner = u.scanner ∧ v.ldr = u.ldr ∧
        v.thu.tokens = u.thu.tokens ∧ v.thu.releasePending = u.thu.releasePending ∧ v.thu.waitQueue = u.thu.waitQueue := by
      rw [← hv]; exact ⟨rfl, rfl, rfl, rfl, rfl, rfl, rfl, rfl, rfl⟩
    obtain ⟨b1, b2, b3, b4, b5, b6, b7, b8, b9⟩ := vb
    have vprof : v.prof = u.prof := by unfold State.prof; rw [b6]
    unfold State.tokenReturned
    rw [b8]
    cases hr : u.thu.releasePending
    · rw [if_neg (by decide)]
      obtain ⟨f1, f2, f3, f4, f5⟩ := serveHead_frame v
      refine ⟨?_, ?_, fun h => ?_, ?_, ?_, f2.trans b2, f3.trans b3, f4.trans b4, f5.trans b5, (serveHead_same v).2.2.trans b6⟩
      · rw [(serveHead_onTime v i).1, vi]; exact h0.1
      · rw [(serveHead_onTime v i).2, vi]; exact h0.2
      · have ni : i ∉ u.thu.waitQueue := fun m => by rw [((hq h).2 i).1 m] at hp; cases hp
        unfold State.serveHead
        split
        · rw [vi]; exact (by decide : HeaterPhase.offTime ≠ .on)
        · next j rest e =>
          rw [State.modHeater_heaters]
          have ne : j ≠ i := fun e' => ni (by rw [← b9, e, e']; exact List.mem_cons_self)
          rw [if_neg ne]
          show v.thu.heaters[i].phase ≠ _
          rw [vi]; exact (by decide : HeaterPhase.offTime ≠ .on)
      · rw [(serveHead_same v).1, b7]; rfl
      · rw [f1, b1]; rfl
    · rw [if_pos rfl]
      unfold State.releaseToken State.release
      rw [← b1, ← b2, ← b3, ← b4, ← b5, ← b6, ← b7, ← vprof]
      refine ⟨?_, ?_, fun _ => ?_, rfl, rfl, rfl, rfl, rfl, rfl, rfl⟩
      · show v.thu.heaters[i].onTime = 0; rw [vi]; exact h0.1
      · show v.thu.heaters[i].inForce = 0; rw [vi]; exact h0.2
      · show v.thu.heaters[i].phase ≠ _; rw [vi]; exact (by decide : HeaterPhase.offTime ≠ .on)
  · next hp =>
    have ne : (u.thu.releasePending && u.thu.heaters[i].phase == .on) = false := by rw [hp]; exact Bool.and_false _
    rw [ne]
    have vi : ((u.modHeater i turnOff).leaveQueue i).thu.heaters[i] = turnOff u.thu.heaters[i] :=
      (State.modHeater_heaters u i turnOff i).trans (if_pos rfl)
    rw [vi]
    exact ⟨h0.1, h0.2, fun _ => (by decide : HeaterPhase.offTime ≠ .on), rfl, rfl, rfl, rfl, rfl, rfl, rfl⟩
  · next hp _ =>
    have ne : (u.thu.releasePending && u.thu.heaters[i].phase == .on) = false := by
      generalize u.thu.heaters[i].phase = ph at *
      cases ph <;> first | exact absurd rfl hp | exact Bool.and_false _
    rw [ne]
    exact ⟨h0.1, h0.2, fun _ => hp, rfl, rfl, rfl, rfl, rfl, rfl, rfl⟩

/-! ### Entries -/

/-- An entry written joins the history (R149, R155, R156). -/
theorem writeEntry_takesEntry (s : State) (e : Entry) : s.takesEntry (s.writeEntry e) e := by
  refine ⟨fun h => ?_, fun h => ?_⟩
  · rw [State.writeEntry_room s e h]; exact ⟨rfl, rfl⟩
  · rw [State.writeEntry_full s e (Nat.not_lt.2 h)]; exact ⟨rfl, rfl⟩

/-! ### Switches, failures and trips -/

/-- Dropping a socket opens its switch, and moves nothing else of the RLU. -/
theorem dropSocket_rlu (s : State) (i : Socket) :
    (s.dropSocket i).rlu = (s.modPower i openPower).rlu := by unfold State.dropSocket; exact forceOff_rlu _ i

/-- An entry written moves the ACU alone. -/
theorem writeEntry_acu (s : State) (e : Entry) : s.writeEntry e = { s with acu := (s.writeEntry e).acu } := by
  unfold State.writeEntry; split <;> rfl

/-- What dropping a socket leaves of the ACU. -/
theorem dropSocket_acu (s : State) (i : Socket) :
    (s.dropSocket i).acu = { s.acu with socketGate := s.acu.socketGate.set i false, powered := s.acu.powered.set i false } := by
  simp only [State.dropSocket, State.modHeater_acu, forceOff_records, State.modPower_acu]

/-- Dropping a socket once the ACU has moved that socket's record and the history alone: the socket loses its power. -/
theorem dropSocket_drops (s : State) (a : Acu) (i : Socket) (hg : a.socketGate = s.acu.socketGate)
    (hp : a.powered = s.acu.powered) (hr : ∀ j : Socket, j ≠ i → a.records[j] = s.acu.records[j]) :
    s.dropsSocket (State.dropSocket { s with acu := a } i) i 0 := by
  have ha := dropSocket_acu { s with acu := a } i
  have hrl := dropSocket_rlu { s with acu := a } i
  obtain ⟨f1, f2, f3, f4, f5, f6, f7⟩ := forceOff_heater (State.modPower { s with acu := a } i openPower) i
  unfold State.dropSocket at *
  generalize State.forceOff (State.modPower { s with acu := a } i openPower) i = w at *
  have hw : (w.modHeater i noTrips).thu.heaters[i] = noTrips w.thu.heaters[i] :=
    (State.modHeater_heaters w i noTrips i).trans (if_pos rfl)
  refine ⟨?_, fun h => ?_, ?_, ?_, ?_, f4, f5, ?_, ?_, ?_, fun j hj => ⟨?_, ?_⟩, ?_, f7⟩
  · show w.rlu.sockets[i].closed = false
    rw [show w.rlu = _ from hrl, State.modPower_sockets, if_pos rfl]; rfl
  · show ((w.modHeater i noTrips).thu.heaters[i].phase == .on) = false
    rw [hw]; exact beq_eq_false_iff_ne.2 (f3 h)
  · show (w.modHeater i noTrips).thu.heaters[i].onTime = 0
    rw [hw]; exact f1
  · show (w.modHeater i noTrips).thu.heaters[i].inForce = 0
    rw [hw]; exact f2
  · show (w.modHeater i noTrips).thu.heaters[i].tripStreak = 0
    rw [hw]; rfl
  · show ({ w.ptu with members := w.ptu.members.set i false } : Ptu) = _
    rw [f6]; rfl
  · exact (congrArg Acu.socketGate ha).trans (by rw [← hg])
  · exact (congrArg Acu.powered ha).trans (by rw [← hp])
  · exact (congrArg (fun x : Acu => x.records[j]) ha).trans (hr j hj)
  · show w.rlu.sockets[j] = _
    rw [show w.rlu = _ from hrl, State.modPower_sockets, if_neg (Ne.symm hj)]
  · show w.rlu = { s.rlu with sockets := w.rlu.sockets }
    rw [show w.rlu = _ from hrl]; rfl

/-- A socket's failure for good, with every field the rules name (R84, R85, R89, R97, R123, R135). -/
theorem failSocket_fails (s : State) (i : Socket) (kind : FailKind) (finding : Finding) :
    s.failsSocket (s.failSocket i kind finding) i kind finding := by
  have hw := writeEntry_takesEntry s (s.entryOf i finding true)
  have he := writeEntry_acu s (s.entryOf i finding true)
  have hg := State.writeEntry_socketGate s (s.entryOf i finding true)
  have hp := State.writeEntry_powered s (s.entryOf i finding true)
  have hr := State.writeEntry_records s (s.entryOf i finding true)
  unfold State.failSocket
  rw [show s.writeSocketEntry i finding true = s.writeEntry (s.entryOf i finding true) from rfl]
  generalize s.writeEntry (s.entryOf i finding true) = v at *
  dsimp only
  rw [he]
  unfold State.takesEntry at hw
  generalize v.acu = a at *
  generalize hm : State.modRecord { s with acu := a } i (fun r => r.fail kind s.rcu.phase) = m
  have hma : m = { s with acu := m.acu } := by rw [← hm]; rfl
  have hmr : ∀ j : Socket, m.acu.records[j] = if i = j then s.acu.records[i].fail kind s.rcu.phase else s.acu.records[j] :=
    fun j => by rw [← hm, State.modRecord_records, hr]
  have d := dropSocket_drops s m.acu i (by rw [← hm]; exact hg) (by rw [← hm]; exact hp)
    (fun j hj => (hmr j).trans (if_neg (Ne.symm hj)))
  have hrl := dropSocket_rlu m i
  have hac := dropSocket_acu m i
  rw [← hma] at d
  generalize m.dropSocket i = w at *
  have hw0 : w.rlu.sockets[i] = openPower s.rlu.sockets[i] := by
    rw [hrl, State.modPower_sockets, if_pos rfl, hma]
  have hri : w.acu.records[i] = s.acu.records[i].fail kind s.rcu.phase := by
    rw [hac]; exact (hmr i).trans (if_pos rfl)
  have hwi : ∀ j : Socket, (w.releaseAllowance i).rlu.sockets[j] =
      if i = j then { w.rlu.sockets[i] with allowance := 0, threshold := 0 } else w.rlu.sockets[j] :=
    fun j => State.modPower_sockets _ i _ j
  obtain ⟨d1, d2, d3, d4, d5, d6, d7, d8, d9, d10, d11, d12, d13⟩ := d
  refine ⟨⟨?_, d2, d3, d4, d5, d6, ?_, d8, d9, d10, fun j hj => ⟨(d11 j hj).1, ?_⟩, ?_, d13⟩, ?_, ?_, hri, ?_⟩
  · show (w.releaseAllowance i).rlu.sockets[i].closed = false
    rw [hwi, if_pos rfl]; exact d1
  · show ({ w.bdu with ownHeld := w.bdu.ownHeld - w.rlu.sockets[i].allowance } : Bdu) = _
    rw [d7, hw0]; rfl
  · rw [hwi, if_neg (Ne.symm hj)]; exact (d11 j hj).2
  · show ({ w.rlu with sockets := _ } : Rlu) = _
    rw [d12]; rfl
  · rw [hwi, if_pos rfl, hw0]; rfl
  · exact List.any_eq_true.2 ⟨i, List.mem_finRange i, by rw [State.socketState, show (w.releaseAllowance i).acu = w.acu from rfl, hri]; rfl⟩
  · unfold State.takesEntry
    rw [show (w.releaseAllowance i).acu = w.acu from rfl, hac, ← hm]; exact hw

/-- A trip of a powered socket, with every field the rules name (R87 to R89). -/
theorem trip_trips (s : State) (i : Socket) (detail : Nat) (h : (s.socketState i).powered = true) :
    s.tripsSocket (s.trip i detail) i detail := by
  unfold State.trip
  rw [if_pos h]
  refine ⟨fun hu => ?_, fun hu => ?_⟩
  · rw [if_pos hu]
    dsimp only
    generalize hn : s.acu.records[i].retries + 1 = n
    generalize hm : s.modRecord i (SocketRecord.retry n) = m
    have hma : m = { s with acu := m.acu } := by rw [← hm]; rfl
    have hmr : ∀ j : Socket, m.acu.records[j] = if i = j then SocketRecord.retry n s.acu.records[i] else s.acu.records[j] :=
      fun j => by rw [← hm, State.modRecord_records]
    have hh : m.acu.history = s.acu.history ∧ m.acu.overflow = s.acu.overflow ∧ m.acu.socketGate = s.acu.socketGate ∧
        m.acu.powered = s.acu.powered ∧ m.rcu = s.rcu ∧ m.biu = s.biu := by rw [← hm]; exact ⟨rfl, rfl, rfl, rfl, rfl, rfl⟩
    have he : m.writeSocketEntry i (.overcurrent detail n) false = m.writeEntry (s.entryOf i (.overcurrent detail n) false) := by
      unfold State.writeSocketEntry State.entryOf
      rw [hmr, if_pos rfl, hh.2.2.2.2.1, hh.2.2.2.2.2]; rfl
    rw [he]
    have hw := writeEntry_takesEntry m (s.entryOf i (.overcurrent detail n) false)
    have hv := writeEntry_acu m (s.entryOf i (.overcurrent detail n) false)
    have hg := State.writeEntry_socketGate m (s.entryOf i (.overcurrent detail n) false)
    have hp := State.writeEntry_powered m (s.entryOf i (.overcurrent detail n) false)
    have hr := State.writeEntry_records m (s.entryOf i (.overcurrent detail n) false)
    generalize m.writeEntry (s.entryOf i (.overcurrent detail n) false) = v at *
    have hva : v = { s with acu := v.acu } := by rw [hv, hma]
    have d := dropSocket_drops s v.acu i (hg.trans hh.2.2.1) (hp.trans hh.2.2.2.1)
      (fun j hj => by rw [hr, hmr, if_neg (Ne.symm hj)])
    have hrl := dropSocket_rlu v i
    have hac := dropSocket_acu v i
    rw [← hva] at d
    generalize v.dropSocket i = w at *
    have hw0 : w.rlu.sockets[i] = openPower s.rlu.sockets[i] := by rw [hrl, State.modPower_sockets, if_pos rfl, hva]
    obtain ⟨d1, d2, d3, d4, d5, d6, d7, d8, d9, d10, d11, d12, d13⟩ := d
    have hprof : w.prof = s.prof := congrArg (fun l : Ldr => l.profile.getD Profile.blank) d13.2.2.2
    have hwi : ∀ j : Socket, (w.modPower i (fun p => { p with retryWait := some w.prof.retryWait })).rlu.sockets[j] =
        if i = j then { w.rlu.sockets[i] with retryWait := some w.prof.retryWait } else w.rlu.sockets[j] :=
      fun j => State.modPower_sockets _ i _ j
    refine ⟨⟨?_, d2, d3, d4, d5, d6, d7, d8, d9, d10, fun j hj => ⟨(d11 j hj).1, ?_⟩, ?_, d13⟩, ?_, ?_, ?_⟩
    · show (w.modPower i _).rlu.sockets[i].closed = false
      rw [hwi, if_pos rfl]; exact d1
    · rw [hwi, if_neg (Ne.symm hj)]; exact (d11 j hj).2
    · show ({ w.rlu with sockets := _ } : Rlu) = _
      rw [d12]; rfl
    · rw [hwi, if_pos rfl, hw0, hprof]; rfl
    · rw [State.modPower_acu, hac, hr, hmr, if_pos rfl]; rfl
    · unfold State.takesEntry at *
      rw [State.modPower_acu, hac]
      rw [hh.1, hh.2.1] at hw; exact hw
  · rw [if_neg (Nat.not_lt.2 hu)]
    exact failSocket_fails s i _ _

/-- A failure from a state whose socket differs in its power side alone, the allowance apart, is a failure. -/
theorem failsSocket_of_modPower (s t : State) (i : Socket) (f : SocketPower → SocketPower)
    (hf : (f s.rlu.sockets[i]).allowance = s.rlu.sockets[i].allowance) (k : FailKind) (fi : Finding)
    (h : (s.modPower i f).failsSocket t i k fi) : s.failsSocket t i k fi := by
  obtain ⟨⟨d1, d2, d3, d4, d5, d6, d7, d8, d9, d10, d11, d12, d13⟩, h2, h3, h4, h5⟩ := h
  refine ⟨⟨d1, d2, d3, d4, d5, d6, ?_, d8, d9, d10, fun j hj => ⟨(d11 j hj).1, ?_⟩, d12, d13⟩, h2, h3, h4, h5⟩
  · rw [State.modPower_sockets, if_pos rfl, hf] at d7; exact d7
  · rw [(d11 j hj).2, State.modPower_sockets, if_neg (Ne.symm hj)]

end Sys2Proof.Machine
end

