-- ==== Sys2Proof/WellFormed.lean ====
section
/-! DEFINITION. Which commands can be spelled on the bus and at the pins: the checks their operands carry.
The types already bound sockets, slots, rails, readings and argument bytes. -/

namespace Sys2Proof

/-- An operand is one the hardware can be given: PLAN carries one plan entry of 14 bytes (R164, R186); a frame on
CBD has 11 to 68 bytes (R166, R183); the profile memory is read for at most 16 384 bytes (R175). -/
def Instr.wellFormed : Instr → Bool
  | .cmdPlan args => args.length == 14
  | .frameReceived _ bytes => 11 ≤ bytes.length && bytes.length ≤ 68
  | .profileLoadEnd memory => memory.length ≤ 16384
  | _ => true

end Sys2Proof
end

