-- ==== Sys2Proof/Tests/Slice0.lean ====
section
/-! SUPPORT. The model's own tests. `wf_` theorems: ill-formed operands are refused. `test_` theorems: single functions on
values worked out by hand. `wit_` theorems, one for each statement with hypotheses: for every clause a small state and
operands at a boundary that meet the clause's hypotheses, with what the command then gives. -/

namespace Sys2Proof.Tests

open Sys2Proof Sys2Proof.Machine

set_option Elab.async false

/-! ### Well-formedness -/

theorem wf_plan_short : (Instr.cmdPlan (List.replicate 13 0)).wellFormed = false := by decide

theorem wf_plan_long : (Instr.cmdPlan (List.replicate 15 0)).wellFormed = false := by decide

theorem wf_frame_short : (Instr.frameReceived 3 (List.replicate 10 0)).wellFormed = false := by decide

theorem wf_frame_long : (Instr.frameReceived 3 (List.replicate 69 0)).wellFormed = false := by decide +kernel

theorem wf_memory_long : (Instr.profileLoadEnd (List.replicate 16385 0)).wellFormed = false := by
  simp only [Instr.wellFormed, List.length_replicate]
  decide

theorem wf_accepted : (Instr.cmdPlan (List.replicate 14 0)).wellFormed = true ∧
    (Instr.frameReceived 3 (List.replicate 11 0)).wellFormed = true ∧
    (Instr.frameReceived 3 (List.replicate 68 0)).wellFormed = true := by decide +kernel

/-! ### Single functions -/

/-- R181: over the nine bytes of the text 123456789 the CRC is 29B1 hexadecimal. -/
theorem test_crc : crc [0x31, 0x32, 0x33, 0x34, 0x35, 0x36, 0x37, 0x38, 0x39] = 0x29B1 := by decide +kernel

/-- R186, byte by byte: index 1 of 3, -5 °C to 60 °C as half-degrees, heater on, levels 1, 2, 3, PAIRS with STATIC, drive A5,
clock word 00400000, 90 minutes. -/
theorem test_plan_bytes :
    parsePlan 0 [0x13, 0xFF, 0xF6, 0x00, 0x78, 0x9B, 0x2F, 0xA5, 0x00, 0x40, 0x00, 0x00, 0x00, 0x5A] =
      some { index := 1, length := 3, lo := -10, hi := 120, levelA := 1, levelB := 2, levelC := 3, pattern := .static
             staticDrive := 0xA5, clockWord := 4194304, sequence := .pairs, minutes := 90, heater := true } := by
  decide +kernel

/-- R186, R188: an unassigned bit, an unassigned polarity and an unassigned pattern are refused. -/
theorem test_plan_refused :
    parsePlan 8 [0x13, 0xFF, 0xF6, 0x00, 0x78, 0xDB, 0x2F, 0xA5, 0x00, 0x40, 0x00, 0x00, 0x00, 0x5A] = none ∧
    parsePlan 8 [0x13, 0xFF, 0xF6, 0x00, 0x78, 0x9B, 0x3F, 0xA5, 0x00, 0x40, 0x00, 0x00, 0x00, 0x5A] = none ∧
    parsePlan 8 [0x13, 0xFF, 0xF6, 0x00, 0x78, 0x9B, 0x28, 0xA5, 0x00, 0x40, 0x00, 0x00, 0x00, 0x5A] = none := by
  decide +kernel

/-- R61: the visit passes over what does not fit and goes on. -/
theorem test_visit : visit (fun k => if k = 3 then 5 else if k = 4 then 9 else if k = 5 then 4 else 0) allStations 9 =
    [3, 5] := by decide +kernel

/-- R61: the visit starts at the round number modulo 32, or at slot 2 for 0 and 1. -/
theorem test_visit_start : visitStart 0 = 0 ∧ visitStart 33 = 0 ∧ visitStart 34 = 0 ∧ visitStart 63 = 29 := by decide

/-- Durations in rounds: a minute at a 40 ms round is 1500 rounds, and at 13 ms 4616, rounded up. -/
theorem test_rounds : roundsOf 1 40 = 1500 ∧ roundsOf 1 13 = 4616 := by decide

/-- R115: the polarities of the first passes of PAIRS. -/
theorem test_pairs : (List.map (fun k => invertedAt .pairs (BitVec.ofNat 32 k)) [0, 1, 2, 3, 4]) =
    [false, false, true, true, false] := by decide

/-! ### A small station -/

/-- A profile in range. -/
def demoProfile : Profile :=
  { budget := 1000, period := 40, lostThreshold := 2, joinWait := 2, enableMask := 0x00FF
    levels := Vector.replicate 3 #v[1000, 2000, 3000, 4000], tolerance := 100, railSettle := Vector.replicate 3 10
    socketSettle := 5, base := #v[20, 30, 40, 50], allowance := #v[10, 20, 30, 40], openFloor := 2, tripDebounce := 2
    retryLimit := 1, retryWait := 3, interruptionLimit := 1, recoveryWait := 2, bulkThreshold := 9000, nominal := 5
    heaterPeriod := 100, heaterStep := 10, maxTokens := 2, tripMargin := 5, functionalThreshold := 2, reentry := 1
    idleDrive := 0xAA
    loops := [{ first := 0, count := 1, latency := 1, sigTrue := 0xFFFF, sigInverted := 0x1234 }]
    vectors := [{ drive := 0x0F, compare := false, clocks := 2 }] }

/-- The profile's image with a flag byte for its vector, and a right CRC (R187). -/
def imageWith (flag : Nat) : List Byte :=
  let body := enc16 92 ++ enc8 1 ++ enc16 1 ++ enc16 1000 ++ enc8 40 ++ enc8 2 ++ enc8 2 ++ enc16 0x00FF ++
    (List.replicate 3 (enc16 1000 ++ enc16 2000 ++ enc16 3000 ++ enc16 4000)).flatten ++ enc16 100 ++
    [10, 10, 10] ++ enc8 5 ++ (enc16 20 ++ enc16 30 ++ enc16 40 ++ enc16 50) ++
    (enc16 10 ++ enc16 20 ++ enc16 30 ++ enc16 40) ++ enc16 2 ++ enc8 2 ++ enc8 1 ++ enc8 3 ++ enc8 1 ++ enc8 2 ++
    enc16 9000 ++ enc16 5 ++ enc16 100 ++ enc16 10 ++ enc8 2 ++ enc8 5 ++ enc8 2 ++ enc8 1 ++ enc8 0xAA ++
    (enc16 0 ++ enc16 1 ++ enc8 1 ++ enc16 0xFFFF ++ enc16 0x1234) ++ ([0x0F] ++ enc8 flag ++ enc8 1)
  body ++ enc16 (crc body).toNat

/-- The profile's image. -/
def demoImage : List Byte := imageWith 0

/-- An image of 100 bytes, two loops and one vector, that holds at every other offset the offset itself. -/
def countingImage : List Byte :=
  (((((List.range 100).map (BitVec.ofNat 8)).set 2 2).set 3 0).set 4 1)

set_option maxRecDepth 100000 in
/-- R187: every parameter, loop and vector at its offset. A two-byte field at offset o of that image is 257 o + 1. -/
theorem test_profile_offsets :
    parseProfile countingImage =
      { budget := 1286, period := 7, lostThreshold := 8, joinWait := 9, enableMask := 0x0A0B
        levels := #v[#v[3085, 3599, 4113, 4627], #v[5141, 5655, 6169, 6683], #v[7197, 7711, 8225, 8739]]
        tolerance := 9253, railSettle := #v[38, 39, 40], socketSettle := 41, base := #v[10795, 11309, 11823, 12337]
        allowance := #v[12851, 13365, 13879, 14393], openFloor := 14907, tripDebounce := 60, retryLimit := 61
        retryWait := 62, interruptionLimit := 63, recoveryWait := 64, bulkThreshold := 16706, nominal := 17220
        heaterPeriod := 17734, heaterStep := 18248, maxTokens := 73, tripMargin := 74, functionalThreshold := 75
        reentry := 76, idleDrive := 77
        loops := [{ first := 20047, count := 20561, latency := 82, sigTrue := 0x5354, sigInverted := 0x5556 },
                  { first := 22360, count := 22874, latency := 91, sigTrue := 0x5C5D, sigInverted := 0x5E5F }]
        vectors := [{ drive := 96, compare := true, clocks := 99 }] } := by decide +kernel

/-- A plan entry of a two-phase plan. -/
def demoEntry (index : Nat) : PlanEntry :=
  { index := index, length := 2, lo := 0, hi := 100, levelA := 1, levelB := 1, levelC := 1, pattern := .loop 0
    staticDrive := 0, clockWord := 4194304, sequence := .alternate, minutes := 1, heater := true }

/-- A station in slot 5 with its profile, a complete plan and a synchronised BIU in round 7. -/
def demo (state : StationState) (sub : Option SubState) : State :=
  { State.reset with
    rcu := { Rcu.initial with state := state, sub := sub, planCode := 0x1234, plan :=
      #v[some (demoEntry 0), some (demoEntry 1), none, none, none, none, none, none, none, none, none, none] }
    biu := { Biu.initial with synced := true, roundNumber := 7, roundTimer := 20000 }
    ldr := { Ldr.initial with straps := some { slot := 5, rate := true }, profile := some demoProfile
                              rackCode := 0xBEEF } }

/-- The station in ACTIVE / RUNNING. -/
def running : State := demo .active (some .running)

/-- The station some µs and ticks after the mark that began the round. -/
def pastMark (s : State) (us ticks : Nat) : State :=
  { s with biu := { s.biu with roundTimer := s.prof.period * 1000 - us, usPhase := ticks } }

/-- The rails all in one state. -/
def railsAt (s : State) (st : RailState) : State :=
  { s with rlu := { s.rlu with rails := Vector.replicate 3 { state := st, level := 1, streak := 3, timer := none } } }

/-- Socket 2 in a state, its switch closed or not, with an allowance of 20 dA. -/
def socketAt (s : State) (st : SocketState) (closed : Bool) : State :=
  (s.modRecord 2 (SocketRecord.become st)).modPower 2
    (fun p => { p with closed := closed, allowance := 20, threshold := 20 })

/-- Heater 2 in a phase. -/
def heaterAt (s : State) (ph : HeaterPhase) (tokens : Nat) (queue : List Socket) : State :=
  State.modHeater { s with thu := { s.thu with tokens := tokens, waitQueue := queue, anchor := some 3 } } 2
    (fun h => { h with phase := ph, onTime := 30, inForce := 30, onLeft := none })

/-- The engine plays a pass with socket 2 a member. -/
def playing (s : State) (stop : Bool) (sig : Half) : State :=
  { s with ptu := { s.ptu with engine := if stop then .stopping else .playing, loop := demoProfile.loops[0]?
                               sequence := .alternate, clockWord := 4194304, finishPending := stop
                               members := s.ptu.members.set 2 true, sigs := s.ptu.sigs.set 2 sig } }

/-- An answer of exec: the command completes in a state that passes a check. -/
def after (c : Instr) (s : State) (check : State → Bool) : Bool :=
  match exec c s with
  | .next t => check t
  | _ => false

/-- A history of n entries. -/
def history (n : Nat) : List Entry :=
  List.replicate n { finding := .sensor 0, final := false, socket := some 0, phase := 0, round := 0, credit := some 0 }

/-- The history of a state replaced. -/
def withHistory (s : State) (n : Nat) (shown : Bool) : State :=
  { s with acu := { s.acu with history := history n, shown := shown } }

/-- A status report of an ACTIVE same-plan peer. -/
def report (phase : Nat) (vote : Bool) : StatusReport :=
  { StatusReport.blank with round := 7, stateCode := 1, subCode := 2, rackCode := 0xBEEF, planCode := 0x1234
                            phase := phase, vote := vote, held := 50, asked := 40 }

/-- A peer in slot 2, in a presence, with a report; heard in the round just ended or not. -/
def withPeer (s : State) (presence : Presence) (missed : Nat) (r : StatusReport) (heard : Bool) : State :=
  { s with biu := { s.biu with
      peers := s.biu.peers.set 0 { presence := presence, missed := missed, report := r, rackDiffers := false }
      received := if heard then 4 else 0
      rxStatus := if heard then s.biu.rxStatus.set 0 (some r) else s.biu.rxStatus } }

/-- A conversion of an input ends at this instant. -/
def converted (s : State) (input : ScanInput) : State := { s with scanner := { s.scanner with converting := some input } }

/-- The bytes of a frame with its CRC. -/
def sealed (body : List Byte) : List Byte := body ++ enc16 (crc body).toNat

/-! ### The queue, the clock, reset and load -/

theorem wit_StepRunsTheFrontCommand :
    ({ running with pending := [.cmdHold, .cmdAbort] } : State).pending = [.cmdHold, .cmdAbort] ∧
    step { running with pending := [.cmdHold, .cmdAbort] } =
      .next { running with
        rcu := { running.rcu with cmdHold := true }
        acu := { running.acu with reportCode := 3, reportResult := .accepted }
        pending := [.cmdAbort] } := ⟨rfl, rfl⟩

/-- A station in LOADING with its straps latched, `clock` ticks after the profile port's select was asserted. -/
def loading (slot : Slot) (clock : Nat) : State :=
  { demo .loading none with ldr := { Ldr.initial with straps := some { slot := slot, rate := true }, portSelect := true
                                                      portSent := readRequest, portClock := clock } }

/-- Each event that falls due: a conversion that ends, a scan at its completion, a settle timer, a rail's, an on-phase and
a period start; the end of the longest load, 524 416 ticks after the select. -/
theorem wit_DueEventsJoinTheQueue :
    let conv := converted running .bulk
    let scan : State := { running with scanner := { running.scanner with place := 7, scan := some .mark, channel := 16 } }
    let due : State := ((railsAt running .falling).modPower 15 (fun p => { p with settle := some 0 })).modHeater 0
      (fun h => { h with onLeft := some 0, nextStart := some 0 })
    let s := due.modRail .b (fun u => { u with timer := some 0 })
    conv.pending = [] ∧ conv.running = true ∧ conv.scanner.place % 800 = 0 ∧ conv.ending = some .bulk ∧
    scan.ending = none ∧ scan.scanEnds = true ∧
    (match step scan with
      | .next t => t.pending == [.scanCompletion]
      | _ => false) = true ∧
    s.ending = none ∧ s.scanEnds = false ∧
    s.timersDue = [.socketSettleEnd 15, .railFallTimeout .b, .heaterOnEnd 0, .heaterPeriodStart 0] ∧
    (match step s with
      | .next t => t.pending == s.timersDue && t.timersDue == []
      | _ => false) = true ∧
    (loading 5 524416).ending = none ∧ (loading 5 524416).scanEnds = false ∧ (loading 5 524416).timersDue = [] ∧
    32 * (4 + 16384) = 524416 ∧
    (match step (loading 5 524416) with
      | .next t => t.pending == [.profileLoadEnd [0x40, 0x00]]
      | _ => false) = true := by decide +kernel

/-- The tick before a µs ends and the tick that ends it, at the slot start (6250 µs in slot 5), at the half round and at the
expiry; the last tick of a frame. -/
theorem wit_PassingTimeCountsEveryTimer :
    let s (phase left : Nat) : State := { running with biu := { running.biu with usPhase := phase, roundTimer := left } }
    let gives (u : State) (cs : List Instr) (left : Nat) : Bool :=
      match step u with
      | .next t => t.pending == cs && t.biu.roundTimer == left
      | _ => false
    let frame : State := { s 0 30000 with
      biu := { (s 0 30000).biu with tx := .sending, txFrame := List.replicate 30 0, txClock := 6799 } }
    (s 39 2).pending = [] ∧ (s 39 2).ending = none ∧ (s 39 2).scanEnds = false ∧ (s 39 2).timersDue = [] ∧
    gives (s 38 1) [] 1 = true ∧ gives (s 39 2) [] 1 = true ∧ gives (s 39 1) [.roundTimerExpiry] 0 = true ∧
    gives (s 39 33751) [.statusFrameBuild] 33750 = true ∧ gives (s 39 20001) [.halfRoundScan] 20000 = true ∧
    gives (s 39 0) [] 0 = true ∧ running.rcu.state ≠ .loading ∧ (loading 5 524415).ldr.portClock ≠ 32 * (4 + 16384) ∧
    (match step (loading 5 524415) with
      | .next t => t.pending == [] && t.ldr.portClock == 524416
      | _ => false) = true ∧
    (match step (running.modPower 2 (fun p => { p with settledNow := true })) with
      | .next t => !t.rlu.sockets[2].settledNow
      | _ => false) = true ∧
    frame.frameTicks = 6800 ∧ gives frame [.statusFrameEnd] 30000 = true := by decide +kernel

/-- The engine stopped; an accumulator below its overflow; overflows with DCLK high outside and within a strobe clock, and
with DCLK low at a vector's last clock, at a drain clock and at the end of the pass. -/
theorem wit_EmptyQueueStepRunsTheClock :
    let low := playing running false 0
    let high : State := { low with ptu := { low.ptu with acc := 0xC00000, dclk := true } }
    let rise (clocks drain : Nat) : State := { low with
      ptu := { low.ptu with acc := 0xC00000, dclk := false, align := [true], clocksLeft := clocks, drainLeft := drain } }
    let gives (u : State) (f : State → Bool) : Bool :=
      match step u with
      | .next t => f t
      | _ => false
    running.pending = [] ∧ running.ending = none ∧ running.scanEnds = false ∧ running.timersDue = [] ∧
    running.ptu.engine = .stopped ∧ low.ending = none ∧ low.timersDue = [] ∧
    low.ptu.engine = .playing ∧ low.ptu.acc.toNat + low.ptu.clockWord < 2 ^ 24 ∧
    high.ptu.acc.toNat + high.ptu.clockWord = 2 ^ 24 ∧ high.ptu.strobe = false ∧
    ({ high with ptu := { high.ptu with strobe := true } } : State).ptu.strobe = true ∧
    gives low (fun t => t.ptu.acc == 0x400000) = true ∧ gives high (fun t => !t.ptu.dclk && t.ptu.acc == 0) = true ∧
    gives (rise 1 1) (fun t => t.ptu.drv == 0x0F && t.ptu.strobe && t.ptu.align == [false] && t.ptu.clocksLeft == 0) =
      true ∧
    gives (rise 0 1) (fun t => t.ptu.drv == 0 && t.ptu.drainLeft == 0 && t.pending == []) = true ∧
    gives (rise 0 0) (fun t => t.pending == [.passEnd] && !t.ptu.dclk) = true := by decide +kernel

/-- The byte A5 on CBD, and with a low stop bit; the first and the last bit of a frame at either rate; the port's request at
its second byte and its last bit. -/
theorem wit_LinesCarryTheBits :
    let cbd (clock : Nat) : State := { running with
      biu := { running.biu with tx := .sending, txFrame := [0xA5, 0x01], txClock := clock } }
    let port (clock : Nat) : State := { demo .loading none with
      ldr := { Ldr.initial with portSelect := true, portSent := readRequest, portClock := clock } }
    wireByte 0xA5 = [false, true, false, true, false, false, true, false, true, true] ∧
    readWireByte (wireByte 0xA5) = some 0xA5 ∧
    readWireByte [false, true, false, true, false, false, true, false, true, false] = none ∧
    bitTicks running.rate = 20 ∧ bitTicks (demo .reset none).rate = 20 ∧ bitTicks State.reset.rate = 40 ∧
    (cbd 799).cbdLevel = true ∧ (cbd 800).cbdLevel = false ∧ (cbd 819).cbdLevel = false ∧ (cbd 820).cbdLevel = true ∧
    (cbd (800 + 20 * 18)).cbdLevel = true ∧ (cbd (800 + 20 * 17)).cbdLevel = false ∧ (cbd 1199).cbdLevel = true ∧
    (cbd 800).frameTicks = 1200 ∧ running.cbdLevel = true ∧
    (port 0).portClockLine = false ∧ (port 2).portClockLine = true ∧ (port 23).portDataLine = false ∧
    (port 24).portDataLine = true ∧ (port 31).portDataLine = true ∧ (port 32).portDataLine = false ∧
    readMemory [1, 2] 3 = [1, 2, 0xFF] ∧ clockIn 0x81 = 0x81 := by decide +kernel

/-- The slots of the fast list at its ends, the channels after it, and the ends of a slot and of the frame; a reading out of
its turn, and a completion one channel short. -/
theorem wit_ScannerConvertsInOrder :
    let c : Scanner := { Scanner.initial with scan := some .mark, channel := 15 }
    let s : State := { running with scanner := { c with converting := some (.current 3) } }
    c.slotInput 0 = some (.current 0) ∧ c.slotInput 15 = some (.current 15) ∧ c.slotInput 20 = some .board ∧
    c.slotInput 21 = some (.temperature 15) ∧ c.slotInput 49 = some (.temperature 15) ∧
    ({ c with channel := 16 } : Scanner).slotInput 21 = none ∧ Scanner.initial.slotInput 21 = none ∧
    ({ c with place := 800 * 49 } : Scanner).advance.converting = some (.temperature 15) ∧
    ({ c with place := 801 } : Scanner).advance.converting = none ∧
    ({ c with place := 39999 } : Scanner).advance.place = 0 ∧
    s.ending = some (.current 3) ∧ after (.socketCurrentReading 2 9) s (· == s) = true ∧
    after (.railReading .a 9) s (· == s) = true ∧ after (.bulkReading 9) s (· == s) = true ∧
    after (.boardCurrentReading 9) s (· == s) = true ∧ after (.temperatureReading 15 9) s (· == s) = true ∧
    after .scanCompletion s (· == s) = true := by decide +kernel

theorem wit_StrapsAreLatchedAndKept :
    State.reset.rcu.state = .reset ∧ after (.resetRelease 31 true) State.reset (fun t => t.rcu.state == .loading) = true ∧
    running.rcu.state ≠ .reset ∧ (∀ c ∈ running.pending.head?, c ≠ .pinReset) ∧
    (match step running with
      | .next t => t.ldr == running.ldr
      | _ => false) = true := by decide +kernel

set_option maxRecDepth 100000 in
/-- The header's length at 79 and above 16 384; an error in a CRC; a vector's flag byte of 1, and of 2 and 128 under a right
CRC, and the demonstration image's clauses. A bad header ends the load 288 ticks after the select, an
image of 92 bytes 3072 ticks after it; not a tick before, nor a tick after. -/
theorem wit_BadProfileEndsInLoadfail :
    let ends (clock : Nat) (memory : List Byte) : Bool := after (.profileLoadEnd memory) (loading 5 clock)
      (fun t => t.rcu.state == .loadFail && t.faultLine && !t.portSelectLine && !t.portClockLine)
    let waits (clock : Nat) (memory : List Byte) : Bool :=
      after (.profileLoadEnd memory) (loading 5 clock) (· == loading 5 clock)
    (loading 5 288).rcu.state = .loading ∧ judgeProfile true [0x00, 0x4F] = none ∧
    u16At (readMemory [0x00, 0x4F] 5) 0 = 79 ∧ u16At (readMemory [0x40, 0x01] 5) 0 = 16385 ∧
    judgeProfile true (demoImage.set 91 0) = none ∧ (judgeProfile true demoImage).isSome = true ∧
    ((judgeProfile true (imageWith 1)).map (fun e => e.1.vectors.map PatternVector.compare) = some [true]) ∧
    judgeProfile true (imageWith 2) = none ∧ judgeProfile true (imageWith 128) = none ∧
    parseProfile (readMemory demoImage 92) = demoProfile ∧ u16At demoImage 3 = 1 ∧ byteAt demoImage 88 = 0 ∧
    ends 288 [0x00, 0x4F] = true ∧ ends 288 [0x40, 0x01] = true ∧ ends 288 [] = true ∧
    waits 287 [] = true ∧ waits 289 [] = true ∧ waits 288 demoImage = true ∧
    ends 3072 (demoImage.set 91 0) = true ∧ waits 3071 demoImage = true ∧ waits 3073 demoImage = true ∧
    after (.profileLoadEnd []) running (· == running) = true := by decide +kernel

set_option maxRecDepth 100000 in
/-- The demonstration image is judged good and spells the demonstration profile; slots 1 and 2. -/
theorem wit_GoodLoadEntersListenOrMuted :
    judgeProfile true demoImage = some (demoProfile, demoImage) ∧ demoImage.length = 92 ∧ 32 * (4 + 92) = 3072 ∧
    after (.profileLoadEnd demoImage) (loading 2 3072)
      (fun t => t.rcu.state == .listen && t.biu.roundTimer == 80000 && t.acu.records[8].state == .excluded) = true ∧
    after (.profileLoadEnd demoImage) (loading 1 3072) (fun t => t.rcu.state == .muted && t.ptu.drv == 0xAA) = true := by
  decide +kernel

/-! ### The round -/

/-- One µs more than half a round is left; a timer at 1 and at 0; LOADFAIL; the sync mark by an edge and by an expiry, at
the highest round number. -/
theorem wit_EdgesExpiriesAndTheSyncMark :
    let s := { running with biu := { running.biu with roundTimer := 20001 } }
    let u (left : Nat) := { demo .listen none with biu := { Biu.initial with roundNumber := 0xFFFFFFFF, roundTimer := left } }
    s.biu.synced = true ∧ s.prof.period * 1000 / 2 < s.biu.roundTimer ∧ after .mark s (· == s) = true ∧
    (u 1).biu.roundTimer ≠ 0 ∧ after .roundTimerExpiry (u 1) (· == u 1) = true ∧
    after .mark (demo .loadFail none) (· == demo .loadFail none) = true ∧
    (u 80000).running = true ∧ (u 80000).biu.synced = false ∧
    after .mark (u 80000) (fun t => t.biu.synced && t.biu.roundNumber == 0 && t.biu.roundTimer == 40000 &&
      t.scanner.scan == some .mark && t.scanner.channel == 0) = true ∧
    after .mark { u 80000 with scanner := { Scanner.initial with scan := some .half, channel := 15 } }
      (fun t => t.scanner.scan == some .half && t.scanner.channel == 15 && t.scanner.held == some .mark) = true ∧
    after .roundTimerExpiry (u 0) (fun t => t.biu.synced && t.biu.cbmPulse == 800) = true := by decide +kernel

/-- Exactly half a round is left, which is also a severe slip; at the foot of either drift flag; with a half-round scan held
behind one in progress; with a READ reply still due, lost at a mark and at an expiry and held at a mark that mutes. -/
theorem wit_MarkCapturesSlipAndBeginsTheRound :
    let due : State := { running with acu := { running.acu with readDue := some 2 } }
    running.running = true ∧ running.biu.synced = true ∧ running.biu.roundTimer ≤ running.prof.period * 1000 / 2 ∧
    after .mark running (fun t => t.biu.slip == 20000 && t.biu.driftSevere && t.biu.driftWarn) = true ∧
    after .mark { running with biu := { running.biu with roundTimer := 157 } }
      (fun t => t.biu.driftWarn && !t.biu.driftSevere) = true ∧
    after .mark { running with biu := { running.biu with roundTimer := 156 } } (fun t => !t.biu.driftWarn) = true ∧
    after .mark { running with thu := { running.thu with markScanWarm := true } }
      (fun t => t.rcu.state == .active && t.scanner.scan == some .mark && !t.thu.markScanWarm) = true ∧
    after .mark due (fun t => t.acu.readDue == none && t.rcu.state == .active) = true ∧
    after .mark { due with biu := { due.biu with mismatchCount := 4 } }
      (fun t => t.acu.readDue == some 2 && t.rcu.state == .muted) = true ∧
    after .roundTimerExpiry { due with biu := { due.biu with roundTimer := 0 } } (fun t => t.acu.readDue == none) = true ∧
    after .mark { running with scanner := { running.scanner with scan := some .mark, channel := 5, held := some .half } }
      (fun t => t.scanner.channel == 5 && t.scanner.held == some .mark) = true ∧
    after .roundTimerExpiry { running with biu := { running.biu with roundTimer := 0 } }
      (fun t => t.biu.slip == 0 && t.biu.cbmPulse == 800) = true := by decide +kernel

/-- Every row of the peer table's transitions, with L = 2: heard, and missed as ABSENT, LIVE, SILENT one short of L, LOST
one short of 2L, and LOST at its end. A missed slot keeps what was reported and whether the rack code differs; only the forget
rule clears the held and the asked. -/
theorem wit_MarkFollowsTheFramesHeard :
    let s (p : Presence) (m : Nat) (heard : Bool) := withPeer running p m (report 0 true) heard
    let u (p : Presence) (m : Nat) (heard : Bool) (q : Presence) (n : Nat) :=
      after .mark (s p m heard) (fun t => t.biu.peers[0].presence == q && t.biu.peers[0].missed == n)
    let keeps (p : Presence) (m held asked : Nat) : Bool :=
      let u := s p m false
      let differs : State := { u with biu := { u.biu with peers := u.biu.peers.set 0 { u.biu.peers[0] with rackDiffers := true } } }
      after .mark differs (fun t => t.biu.peers[0].report == { report 0 true with held := held, asked := asked } &&
        t.biu.peers[0].rackDiffers)
    keeps .live 0 50 40 = true ∧ keeps .silent 1 50 40 = true ∧ keeps .lost 2 50 40 = true ∧ keeps .absent 0 50 40 = true ∧
    keeps .lost 3 0 0 = true ∧
    (s .absent 0 true).heardFrom 0 = true ∧ (s .live 0 false).heardFrom 0 = false ∧
    u .absent 0 true .live 0 = true ∧ u .absent 0 false .absent 0 = true ∧ u .live 0 false .silent 1 = true ∧
    u .silent 1 false .lost 2 = true ∧ u .lost 2 false .lost 3 = true ∧ u .lost 3 false .absent 0 = true ∧
    u .silent 0 false .silent 1 = true ∧
    after .mark (withPeer running .live 0 { report 0 true with round := 9 } true) (fun t => t.biu.roundNumber == 10 &&
      t.biu.peers[0].report.round == 9) = true ∧
    after .mark { demo .listen none with biu := { (demo .listen none).biu with rxRounds := [3, 0xFFFFFFFF, 9] } }
      (fun t => t.biu.roundNumber == 0) = true ∧
    after .mark (demo .listen none) (fun t => t.biu.roundNumber == 8) = true := by decide +kernel

/-- A mark under rack hold by a peer's flag, one that mutes, one at which the unheard streak reaches L, and a clash. -/
theorem wit_MarkRunsItsWork :
    let held := withPeer running .live 0 { report 0 true with hold := true } true
    let rack := withPeer (demo .idle none) .live 0 { report 0 true with rackCode := 1 } true
    let un : State := { held with biu := { held.biu with unheardStreak := 1 } }
    let clash : State := { running with biu := { running.biu with mismatchCount := 4 } }
    held.holdFlag = false ∧ held.rackHold = true ∧ after .mark held (fun t => t.rcu.sub == some .held) = true ∧
    rack.muteAtMark = some .rack ∧ after .mark rack (fun t => t.rcu.muteCause == some .rack) = true ∧
    un.unheardSignal = true ∧ after .mark un (fun t => t.rcu.sub == some .recovering && t.rcu.recoverUnheard) = true ∧
    clash.clashCount = true ∧ after .mark clash (fun t => t.rcu.muteCause == some .clash) = true ∧
    (withPeer running .silent 1 (report 0 true) false).markFacts.missedPeer = true ∧
    after .roundTimerExpiry { running with biu := { running.biu with roundTimer := 0 } } (fun t => t.drivesCbm) = true := by
  decide +kernel

/-- The own slot heard and a peer's rack code in LISTEN; a lower and a higher slot's in IDLE; the counts of a stopped and of
a whole frame; a heard and an unheard round; a clash in each state of its table. -/
theorem wit_StationIsMutedAtItsConditions :
    let own : State := { demo .listen none with biu := { (demo .listen none).biu with received := 32 } }
    let peer (s : State) (k : Station) (rack : Half) (heard : Word) : State := { s with biu := { s.biu with
      rxStatus := s.biu.rxStatus.set k (some { report 0 true with rackCode := rack, heard := heard }) } }
    let sent (tx : Transmission) : State := { running with biu := { running.biu with tx := tx, mismatchCount := 3 } }
    let heldCurrent : State := { running with bdu := { running.bdu with ownHeld := 1 } }
    own.muteAtMark = some .clash ∧ (peer (demo .listen none) 29 1 0).muteAtMark = some .rack ∧
    (peer (demo .idle none) 2 1 0).muteAtMark = some .rack ∧ (peer (demo .idle none) 4 1 0).muteAtMark = none ∧
    (peer running 2 1 0).muteAtMark = none ∧
    ((sent .stoppedByReadback).biuMark 0).biu.mismatchCount = 4 ∧ ((sent .sentWhole).biuMark 0).biu.mismatchCount = 0 ∧
    ((sent .sending).biuMark 0).biu.mismatchCount = 3 ∧ (sent .notSent).clashCount = false ∧
    ((peer running 2 1 32).biuMark 0).biu.sinceUnheard = 1 ∧ ((peer running 2 1 0).biuMark 0).biu.unheardStreak = 1 ∧
    (demo .done none).clash.acu.history = [] ∧ running.clash.acu.history = [] ∧
    heldCurrent.clash.acu.history.length = 1 ∧ (demo .windDown none).clash.acu.history.length = 1 ∧
    running.clash.rcu.state = .muted ∧ running.clash.faultLine = true := by decide +kernel

/-- A powered round that earns, one under rack hold that does not, and one at the maximum of exposure. -/
theorem wit_MarkJudgesTheRoundOfEachSocket :
    let s : State := { running with
      biu := { running.biu with roundTimer := 100 }
      acu := { running.acu with stationGate := true, socketGate := Vector.replicate 16 true
                                powered := Vector.replicate 16 true } }
    s.rcu.state = .active ∧ s.rcu.phase < s.acu.records[2].credit.length ∧
    after .mark s (fun t => t.acu.records[2].exposure == 1 && t.acu.records[2].credit == [1]) = true ∧
    after .mark { s with door := true }
      (fun t => t.acu.records[2].exposure == 1 && t.acu.records[2].credit == [0]) = true ∧
    after .mark (s.modRecord 2 (fun r => { r with exposure := 4294967295 }))
      (fun t => t.acu.records[2].exposure == 4294967295 && t.acu.records[2].credit == [0]) = true := by decide +kernel

/-- The recovery wait's last mark, without and with rack hold, with an UNHEARD condition just met, and one not met; the last
mark of the join wait and the one before it; a retry wait at 2, at 1 and at 0, at a mark and as rows by themselves. -/
theorem wit_WaitsEndAsTheirRules :
    let s0 := demo .active (some .recovering)
    let s : State := { s0 with rcu := { s0.rcu with recoverMarks := 1, recoverBulk := true, recoverUnheard := true }
                               biu := { s0.biu with sinceUnheard := 2 } }
    let l := { demo .listen none with biu := { (demo .listen none).biu with joinCount := 1 } }
    let unmet : State := { s with biu := { s.biu with sinceUnheard := 0 } }
    let first := demo .listen none
    let r (k : Nat) := (socketAt running .retry false).modPower 2 (fun p => { p with retryWait := some k })
    s.rcu.state = .active ∧ s.rcu.sub = some .recovering ∧ s.bdu.queue = [] ∧
    s.prof.recoveryWait ≤ s.rcu.recoverMarks + 1 ∧ s.rlu.bulkLow = false ∧
    s.prof.lostThreshold ≤ s.biu.sinceUnheard ∧ s.rackHold = false ∧
    ({ s with door := true } : State).rackHold = true ∧
    after .recoveringEnd s (fun t => t.rcu.sub == some .bringUp && t.bdu.queue.length == 17) = true ∧
    after .recoveringEnd { s with door := true } (fun t => t.rcu.sub == some .held) = true ∧
    l.biu.synced = true ∧ l.prof.joinWait ≤ l.biu.joinCount + 1 ∧ l.muteAtMark = none ∧
    after .joinWaitEnd l (fun t => t.rcu.state == .idle) = true ∧
    (r 1).socketState 2 = .retry ∧ (r 1).rlu.sockets[2].retryWait = some 1 ∧
    after (.retryWaitEnd 2) (r 1) (fun t => t.socketState 2 == .powering && t.rlu.sockets[2].settle == some 200000) = true ∧
    after (.retryWaitEnd 2) (r 0) (fun t => t.switchLine 2) = true ∧
    (s.runMark false false).rcu.sub = some .bringUp ∧ (s.runMark true false).rcu.sub = some .held ∧
    (s.runMark false false).rcu.recoverMarks = 2 ∧
    (unmet.runMark false false).rcu.sub = some .recovering ∧ (unmet.runMark false false).rcu.recoverMarks = 2 ∧
    l.joinMark.rcu.state = .idle ∧ l.joinMark.biu.joinCount = 2 ∧ first.joinMark.rcu.state = .listen ∧
    first.joinMark.biu.joinCount = 1 ∧ after .mark l (fun t => t.rcu.state == .idle) = true ∧
    after .mark first (fun t => t.rcu.state == .listen && t.biu.joinCount == 1) = true ∧
    after .mark unmet (fun t => t.rcu.sub == some .recovering && t.rcu.recoverMarks == 2) = true ∧
    after .mark (r 2) (fun t => t.rlu.sockets[2].retryWait == some 1 && t.socketState 2 == .retry) = true ∧
    after .mark (r 1) (fun t => t.switchLine 2 && t.socketState 2 == .powering && t.rlu.sockets[2].retryWait == none) =
      true ∧
    ((r 0).retryMarks).socketState 2 = .powering ∧ (demo .windDown none).retryMarks = demo .windDown none := by decide +kernel

/-! ### Frames -/

/-- A frame with a head entry and a READ reply is 68 bytes long. Slot 5 starts 6250 µs after the mark; a tick earlier, a tick
later, and after a mark ahead of the build, nothing is built; over a frame carried over it is; a TRANSITION need of 20 dA. -/
theorem wit_FrameBuildFixesTheFrame :
    let b : State := { withHistory running 1 false with
      acu := { (withHistory running 1 false).acu with readDue := some 2 }, bdu := { running.bdu with queue := [.railBase] } }
    let s := pastMark b 6250 0
    let carried : State := { s with biu := { s.biu with tx := .carriedOver } }
    let rising : State := { s with
      rcu := { s.rcu with sub := some .transition, transit := some { target := 1, stage := .granting }
                          plan := s.rcu.plan.set 1 (some { demoEntry 1 with levelA := 3 }) }
      bdu := { s.bdu with queue := [.transition] } }
    s.transmits = true ∧ s.biu.tx = .notSent ∧ carried.biu.tx = .carriedOver ∧ s.bdu.queue.head? ≠ some .transition ∧
    s.prof.period * 1000 - s.biu.roundTimer = s.slot.val * s.prof.period * 1000 / 32 ∧ rising.delta 1 = 20 ∧
    after .statusFrameBuild s
      (fun t => t.biu.txFrame.length == 68 && t.biu.txShowsHead && t.bdu.sentAsked == 30 && t.acu.readDue == none) = true ∧
    after .statusFrameBuild carried (fun t => t.biu.tx == .sending) = true ∧
    after .statusFrameBuild rising
      (fun t => t.bdu.sentAsked == 20 && t.bdu.sentNeed == some .transition && t.bdu.queue == [.transition]) = true ∧
    after .statusFrameBuild (pastMark b 6249 39) (· == pastMark b 6249 39) = true ∧
    after .statusFrameBuild (pastMark b 6250 1) (· == pastMark b 6250 1) = true ∧
    after .statusFrameBuild (pastMark b 0 0) (· == pastMark b 0 0) = true ∧
    after .statusFrameBuild (pastMark (demo .listen none) 6250 0) (fun t => t.biu.tx == .notSent) = true := by
  decide +kernel

/-- Every queue head of the asked value's table, with the rails carrying and not, in HELD; the vote under the late mark, with
credit at the target and below it; a TRANSITION need whose amount has fallen to 0. -/
theorem wit_AskedValueAndVoteFollowTheirTables :
    let q (s : State) (n : Need) : State := { s with bdu := { s.bdu with queue := [n] } }
    let tr (target : Nat) (stage : TransitStage) : State := { demo .active (some .transition) with
      rcu := { (demo .active (some .transition)).rcu with transit := some { target := target, stage := stage } } }
    let voting (target : Nat) : State := { running with rcu := { running.rcu with targets := [target] } }
    (q running .railBase).askNow = 30 ∧ (q running .heater).askNow = 5 ∧ (q running (.socket 2)).askNow = 0 ∧
    (q (railsAt running .up) (.socket 2)).askNow = 20 ∧ (q (railsAt running .retargeting) (.socket 2)).askNow = 20 ∧
    (q (demo .active (some .held)) .heater).askNow = 0 ∧ (q (tr 1 .granting) .transition).askNow = 0 ∧
    (tr 1 .complete).levelInForce = 1 ∧ (tr 7 .retargeting).levelInForce = 1 ∧ (tr 7 .complete).levelInForce = 0 ∧
    (voting 0).doneVote = true ∧ (voting 1).doneVote = false ∧ (demo .done none).doneVote = false ∧
    ({ voting 1 with rcu := { (voting 1).rcu with lateMark := some 0 } } : State).doneVote = true ∧
    (tr 1 .granting).delta 1 = 0 ∧
    after .statusFrameBuild (pastMark (q (tr 1 .granting) .transition) 6250 0)
      (fun t => t.bdu.queue == [] && t.rcu.transit == some { target := 1, stage := .complete }) = true := by decide +kernel

/-- The greatest amounts a frame can carry, at the highest phase; and a frame with a head entry and a reply, its flags, report,
masks, head and reply bytes. -/
theorem wit_BuiltFrameReadsBack :
    let s : State := { running with rcu := { running.rcu with phase := 15 }, bdu := { running.bdu with ownHeld := 65535 } }
    let e : Entry := { finding := .overcurrent 40 3, final := true, socket := some 2, phase := 11, round := 9, credit := some 7 }
    let u := socketAt running .failed false
    let f := State.frameBytes { u with
      acu := { u.acu with history := [e], readDue := some 2, reportCode := 11, reportResult := .ignored }
      rcu := { u.rcu with endCause := some .stopped }, biu := { u.biu with driftWarn := true } }
    s.rcu.phase < 16 ∧ s.bdu.ownHeld < 65536 ∧ s.askNow < 65536 ∧ s.frameBytes.length = 30 ∧
    (parseStatus 5 s.frameBytes).map StatusReport.held = some 65535 ∧
    (parseStatus 5 s.frameBytes).map StatusReport.phase = some 15 ∧
    f.length = 68 ∧ byteAt f 6 % 8 = 3 ∧ byteAt f 7 = 0x34 ∧ byteAt f 21 = 0x4B ∧ u16At f 22 = 4 ∧ u16At f 24 = 0 ∧
    byteAt f 28 = 0xA2 ∧ byteAt f 29 = 11 ∧ u32At f 30 = 9 ∧ u32At f 34 = 7 ∧ u16At f 38 = 40 ∧ byteAt f 40 = 3 ∧
    byteAt f 42 = 0x42 ∧ byteAt f 43 = 0xC0 := by decide +kernel

/-- A frame of 44 bytes at 2 Mbit/s ends 240 µs after its build; a tick before it does not; carried over, it shows its head. -/
theorem wit_ReadbackDecidesTheFrame :
    let b := withHistory running 1 false
    let s : State := { b with biu := { b.biu with tx := .sending, txFrame := b.frameBytes, txShowsHead := true, txClock := 9600 } }
    let carried : State := { s with biu := { s.biu with tx := .carriedOver } }
    let early : State := { s with biu := { s.biu with txClock := 9599 } }
    s.biu.tx = .sending ∧ s.biu.txClock = s.frameTicks ∧ early.biu.txClock ≠ early.frameTicks ∧
    stationSlot 3 = s.slot.val ∧ (parseStatus s.slot.val s.biu.txFrame).isSome = true ∧
    after .readbackMismatch s (fun t => t.biu.tx == .stoppedByReadback) = true ∧
    after .readbackMismatch carried (fun t => t.biu.tx == .notSent && !t.acu.shown) = true ∧
    after .statusFrameEnd carried (fun t => t.biu.tx == .notSent && t.biu.received == 0 && t.acu.shown) = true ∧
    after .statusFrameEnd early (· == early) = true ∧
    after .statusFrameEnd s (fun t => t.biu.tx == .sentWhole && t.biu.received == 32 && t.acu.shown) = true := by
  decide +kernel

/-- A station's frame in slot 31, from 38 750 to 40 000 µs, with a right and a wrong CRC. Its 30 bytes take 150 µs: it can end
at 38 900 µs and at the last tick of the slot, not a tick earlier or later. -/
theorem wit_StatusFrameIsRecordedForItsSlot :
    let body : List Byte := [2, 31, 0, 0, 0, 9, 0x50, 0, 0xBE, 0xEF, 0x12, 0x34, 0x80, 0, 10, 0, 0, 0, 0, 0, 32] ++
      List.replicate 7 0
    let s := pastMark running 38900 0
    let got (u : State) : Bool := after (.frameReceived 31 (sealed body)) u (fun t => t.biu.received == 2147483648)
    let missed (u : State) (bytes : List Byte) : Bool := after (.frameReceived 31 bytes) u (· == u)
    running.running = true ∧ running.biu.synced = true ∧ running.biu.rxBroken ≠ some 31 ∧
    stationSlot 29 = (31 : Slot).val ∧ (31 : Slot) ≠ running.slot ∧ running.biu.received.getLsbD 31 = false ∧
    after (.frameReceived 31 (sealed body)) s (fun t => t.biu.rxStatus[29] ==
      some { round := 9, stateCode := 1, subCode := 2, hold := false, rackCode := 0xBEEF, planCode := 0x1234, phase := 0
             vote := true, held := 10, asked := 0, heard := 32 }) = true ∧
    got (pastMark running 39999 39) = true ∧ missed (pastMark running 38899 39) (sealed body) = true ∧
    missed (pastMark running 40000 0) (sealed body) = true ∧ missed (pastMark running 300 0) (sealed body) = true ∧
    parseStatus 31 (body ++ [0, 0]) = none ∧ missed s (body ++ [0, 0]) = true := by
  decide +kernel

/-- Frames to another station, to this one, to all, one of bad form, and every command of R164 at its own code, 1400 µs after
the mark; slot 1 lasts from 1250 to 2500 µs, and a frame of 11 bytes takes 55 µs. -/
theorem wit_CommandFrameActsAsItsRow :
    let f (target code : Nat) (args : List Byte) : List Byte :=
      sealed ([1, 1, 0, 0, 0, 7] ++ enc8 target ++ enc8 code ++ enc8 args.length ++ args)
    let got (s : State) (target code : Nat) (args : List Byte) (r : CmdResult) : Bool :=
      after (.frameReceived 1 (f target code args)) (pastMark s 1400 0)
        (fun t => t.biu.received == 2 && t.biu.rxRounds == [7] && t.acu.reportResult == r)
    let late (us ticks : Nat) : Bool :=
      after (.frameReceived 1 (f 5 3 [])) (pastMark running us ticks) (· == pastMark running us ticks)
    late 1304 39 = true ∧ late 1305 0 = false ∧ late 2499 39 = false ∧ late 2500 0 = true ∧
    (parseCommand 1 (f 5 3 [])).isSome = true ∧ got running 6 3 [] .none = true ∧ got running 5 3 [] .accepted = true ∧
    got (demo .listen none) 5 3 [] .none = true ∧ got (demo .idle none) 5 1 (List.replicate 14 0) .refusedArg = true ∧
    got (demo .idle none) 255 2 [] .accepted = true ∧ got running 255 4 [] .accepted = true ∧
    got running 5 5 [0] .accepted = true ∧ got running 5 6 [] .accepted = true ∧ got running 5 7 [15] .accepted = true ∧
    got (demo .idle none) 5 8 [15] .ignored = true ∧ got running 5 9 [15] .accepted = true ∧
    got running 5 10 [] .ignored = true ∧ got (demo .done none) 255 11 [] .accepted = true ∧
    got running 255 9 [1] .refusedArg = true ∧ got running 5 12 [] .refusedArg = true ∧
    got running 5 6 [1] .refusedArg = true := by decide +kernel

theorem wit_BrokenFrameIsNotReceived :
    let s : State := { running with biu := { running.biu with rxBroken := some 0 } }
    running.running = true ∧ running.biu.synced = true ∧ s.biu.rxBroken = some 0 ∧ running.biu.rxBroken ≠ some 0 ∧
    after (.framingError 0) running (· == s) = true ∧ after (.frameReceived 0 []) s (· == running) = true ∧
    after (.frameBroken 0) s (· == running) = true ∧ after (.frameBroken 0) running (· == running) = true := by
  decide +kernel

/-! ### Commands -/

theorem wit_RefusedCommandsOnlyReport :
    (Instr.cmdClear).commandCode = some 11 ∧ running.transmits = true ∧
    (Instr.cmdClear).takenIn running.rcu.state = false ∧ (demo .muted none).transmits = false ∧
    after .cmdClear running (fun t => t.acu.reportCode == 11 && t.acu.reportResult == .refusedState) = true ∧
    after .cmdClear (demo .muted none) (· == demo .muted none) = true ∧
    after (.invalidCommand 1) running (fun t => t.acu.reportCode == 1) = true ∧
    after (.invalidCommand 11) running (fun t => t.acu.reportCode == 11) = true ∧
    after (.invalidCommand 0) running (fun t => t.acu.reportCode == 15) = true ∧
    after (.invalidCommand 12) running (fun t => t.acu.reportCode == 15) = true := by decide +kernel

/-- An entry of the plan's length, one of another length, and one that does not read. -/
theorem wit_PlanStoresAnAcceptedEntry :
    let s := demo .idle none
    let e := { demoEntry 1 with minutes := 65535 }
    let other := { demoEntry 11 with length := 12 }
    s.rcu.state = .idle ∧ parsePlan s.prof.loops.length e.bytes = some e ∧ s.rcu.planLength = e.length ∧
    after (.cmdPlan e.bytes) s (fun t => t.rcu.entry 1 == some e && t.rcu.entry 0 == some (demoEntry 0)) = true ∧
    parsePlan s.prof.loops.length other.bytes = some other ∧ s.rcu.planLength ≠ other.length ∧
    after (.cmdPlan other.bytes) s
      (fun t => t.rcu.entry 11 == some other && t.rcu.entry 0 == none && t.rcu.planCode == 0) = true ∧
    s.rcu.planComplete = true ∧
    s.rcu.codeOfPlan = crc ((demoEntry 0).bytes ++ (demoEntry 1).bytes) ∧
    (s.rcu.storeEntry other).planComplete = false ∧ Rcu.initial.planComplete = false ∧ Rcu.initial.codeOfPlan = 0 ∧
    parsePlan s.prof.loops.length [] = none ∧
    after (.cmdPlan []) s (fun t => t.acu.reportResult == .refusedArg) = true := by decide +kernel

/-- The bounds of R28. -/
theorem wit_PlanEntryBytesReadBack :
    let low := { demoEntry 0 with length := 1, lo := -80, hi := -79, clockWord := 1 }
    let high := { demoEntry 11 with length := 12, lo := 429, hi := 430, minutes := 65535, pattern := .loop 7 }
    low.inRange = true ∧ high.inRange = true ∧ parsePlan 8 low.bytes = some low ∧ parsePlan 8 high.bytes = some high ∧
    parsePlan 7 high.bytes = none ∧ high.bytes.length = 14 := by decide +kernel

/-- START with a complete plan and with none; ADVANCE at phase 11, phase 12, the phase index, the target of a transition, and
another; READ of socket 15 and of 16. -/
theorem wit_StartAdvanceAndReadAreHeld :
    let s := demo .idle none
    let empty : State := { s with rcu := { s.rcu with plan := Vector.replicate 12 none } }
    let a := demo .active (some .transition)
    let t : State := { a with rcu := { a.rcu with phase := 10, transit := some { target := 11, stage := .granting } } }
    s.rcu.planComplete = true ∧ empty.rcu.planComplete = false ∧ empty.rcu.state = .idle ∧
    after .cmdStart s (fun t => t.rcu.startPending) = true ∧
    after .cmdStart empty (fun t => t.acu.reportResult == .refusedArg && !t.rcu.startPending) = true ∧
    t.rcu.state = .active ∧ after (.cmdAdvance 12) t (fun u => u.acu.reportResult == .refusedArg) = true ∧
    after (.cmdAdvance 11) t (fun u => u.rcu.advance == some 11) = true ∧
    after (.cmdAdvance 10) t (fun u => u.rcu.advance == some 10) = true ∧
    after (.cmdAdvance 9) t (fun u => u.acu.reportResult == .ignored) = true ∧
    running.transmits = true ∧ after (.cmdRead 16) running (fun t => t.acu.reportResult == .refusedArg) = true ∧
    after (.cmdRead 15) running (fun t => t.acu.readDue == some 15) = true := by decide +kernel

theorem wit_HoldSourcesSetTheHoldFlag :
    running.transmits = true ∧ after .cmdHold running State.holdFlag = true ∧
    after .cmdResume running (fun t => !t.holdFlag) = true ∧
    after (.doorChange true) (demo .reset none) State.holdFlag = true := by decide +kernel

/-- All rails OFF, and all UP with a socket RUNNING, a heater ON and a pass in flight; rail C OFF and rail B RETARGETING. -/
theorem wit_AbortWindsTheRunDown :
    let s := playing (heaterAt (socketAt (railsAt running .up) .running true) .on 1 []) false 0
    running.railsOff = true ∧ s.railsOff = false ∧ s.rcu.state = .active ∧
    after .cmdAbort running (fun t => t.rcu.state == .done && t.rcu.endCause == some .aborted) = true ∧
    after .cmdAbort s (fun t => t.rcu.state == .windDown && t.socketState 2 == .off && !t.switchLine 2 &&
      !t.heaterLine 2 && t.thu.tokens == 0 && t.railState .c == .falling && t.ptu.engine == .stopped) = true ∧
    after .cmdAbort { s with bdu := { s.bdu with ownHeld := 55 } } (fun t => t.bdu.ownHeld == 30 && t.rcu.poweringDown) =
      true ∧
    after .cmdAbort (((s.modRail .c (fun _ => RailUnit.initial)).modRail .b (fun u => { u with state := .retargeting })))
      (fun t => t.railState .b == .falling && t.railLevelLine .b == 1 && t.rlu.rails[1].timer == some 400000 &&
        t.railState .a == .up && t.railState .c == .off) = true := by
  decide +kernel

/-- Socket 16; socket 2 OFF with its need queued, RUNNING and heating, EXCLUDED, FAILED; INCLUDE of a socket excluded by
command and by the profile, and of one that is OFF. -/
theorem wit_ExcludeAndIncludeFollowTheSocketState :
    let s := heaterAt (socketAt running .running true) .on 1 []
    let off : State := { running with bdu := { running.bdu with queue := [.socket 2, .heater] } }
    let out (src : ExclusionSource) :=
      (socketAt (demo .idle none) .excluded false).modRecord 2 (fun r => { r with source := some src })
    off.socketState 2 = .off ∧ (s.socketState 2).holds = true ∧ s.thu.waitQueue = [] ∧
    (∀ i : Socket, s.thu.heaters[i].phase ≠ .waiting) ∧ s.thu.releasePending = false ∧
    after (.cmdExclude 16) s (fun t => t.acu.reportResult == .refusedArg) = true ∧
    after (.cmdExclude 2) off (fun t => t.socketState 2 == .excluded && t.bdu.queue == [.heater]) = true ∧
    after (.cmdExclude 2) s (fun t => t.socketState 2 == .excluded && t.rlu.sockets[2] == SocketPower.initial &&
      !t.heaterLine 2) = true ∧
    after (.cmdExclude 2) (socketAt running .excluded false) (fun t => t.acu.reportResult == .ignored) = true ∧
    after (.cmdExclude 2) (socketAt running .failed false) (fun t => t.acu.reportResult == .refusedArg) = true ∧
    (out .command).rcu.state = .idle ∧ (out .command).socketState 2 = .excluded ∧ (demo .idle none).socketState 2 = .off ∧
    after (.cmdInclude 16) (out .command) (fun t => t.acu.reportResult == .refusedArg) = true ∧
    after (.cmdInclude 2) (out .command) (fun t => t.socketState 2 == .off && t.acu.records[2].source == none) = true ∧
    after (.cmdInclude 2) (out .profile) (fun t => t.acu.reportResult == .refusedArg) = true ∧
    after (.cmdInclude 2) (demo .idle none) (fun t => t.acu.reportResult == .ignored) = true := by decide +kernel

/-- The wait queue of that state is in order. -/
theorem wit_queueMatches : (heaterAt (socketAt running .running true) .on 1 []).queueMatches := by
  refine ⟨by decide +kernel, ?_⟩
  decide +kernel

theorem wit_TakeAndClearEmptyTheHistory :
    let s := socketAt (withHistory (demo .done none) 48 true) .failed false
    running.transmits = true ∧ (withHistory running 1 true).acu.history = history 1 ∧
    after .cmdTake (withHistory running 1 true) (fun t => t.acu.history == [] && !t.acu.shown) = true ∧
    after .cmdTake (withHistory running 1 false) (fun t => t.acu.reportResult == .ignored) = true ∧
    after .cmdTake (withHistory running 0 true) (fun t => t.acu.reportResult == .ignored) = true ∧
    s.rcu.state = .done ∧ s.failLine = true ∧
    after .cmdClear s (fun t => t.rcu.state == .idle && t.acu.history == [] && !t.failLine &&
      t.acu.records[8].source == some .profile) = true := by decide +kernel

/-! ### Power -/

/-- A settle end; an open switch; at the threshold and above it, with the debounce short of its end and at its end, with a retry left
and with none; in the
open check at the floor, below it for the second and the third time, and at the floor with the engine STATIC; a RUNNING
socket at the floor, below it for the fifteenth and the sixteenth time. -/
theorem wit_CurrentReadingIsSupervised :
    let at2 (s : State) : State := converted s (.current 2)
    let s := at2 (socketAt running .settled true)
    let t := s.modPower 2 (fun p => { p with debounce := 1 })
    let spent (held : Nat) : State :=
      State.modRecord { t with bdu := { t.bdu with ownHeld := held } } 2 (fun r => { r with retries := 1 })
    let settling := (socketAt running .powering true).modPower 2 (fun p => { p with settle := some 0 })
    let c (low : Nat) := at2 ((socketAt running .powering true).modPower 2 (fun p => { p with openCheck := some low }))
    let r (streak : Nat) := at2 ((socketAt running .running true).modPower 2 (fun p => { p with openStreak := streak }))
    let static : State := { c 2 with ptu := { (c 2).ptu with engine := .static } }
    s.ending = some (.current 2) ∧ s.socketState 2 = .settled ∧ s.rlu.sockets[2].closed = true ∧
    s.rlu.sockets[2].threshold = 20 ∧ s.prof.tripDebounce = 2 ∧ settling.socketState 2 = .powering ∧
    settling.rlu.sockets[2].openCheck = none ∧
    after (.socketSettleEnd 2) settling (fun t => t.rlu.sockets[2].openCheck == some 0) = true ∧
    after (.socketCurrentReading 2 99) (at2 (socketAt running .off false)) (fun t => t.acu.records[2].lastCurrent == 99) =
      true ∧
    after (.socketCurrentReading 2 20) t (fun u => u.rlu.sockets[2].debounce == 0) = true ∧
    after (.socketCurrentReading 2 21) s
      (fun u => u.rlu.sockets[2].debounce == 1 && u.acu.records[2].lastCurrent == 21) = true ∧
    after (.socketCurrentReading 2 21) t (fun u => u.socketState 2 == .retry && !u.switchLine 2 &&
      u.rlu.sockets[2] == { SocketPower.initial with allowance := 20, threshold := 20, retryWait := some 3 } &&
      u.acu.records[2].retries == 1 && u.acu.history == [t.entryOf 2 (.overcurrent 21 1) false] && u.bdu == t.bdu) = true ∧
    after (.socketCurrentReading 2 21) (spent 50) (fun u => u.socketState 2 == .failed && u.failLine && u.bdu.ownHeld == 30 &&
      u.rlu.sockets[2] == SocketPower.initial && u.acu.history == [t.entryOf 2 (.overcurrent 21 1) true] &&
      u.acu.records[2].failure == some { kind := .overcurrent, phase := 0, credit := 0 }) = true ∧
    after (.socketCurrentReading 2 2) (c 2) (fun t => t.socketState 2 == .settled && t.switchLine 2 &&
      t.rlu.sockets[2].settledNow) = true ∧
    after (.socketCurrentReading 2 2) static (fun t => t.socketState 2 == .running) = true ∧
    after (.socketCurrentReading 2 1) (c 1) (fun t => t.rlu.sockets[2].openCheck == some 2) = true ∧
    after (.socketCurrentReading 2 1) (c 2)
      (fun u => u.socketState 2 == .failed && u.failLine && u.acu.history == [s.entryOf 2 (.openLoad 1) true] &&
        u.rlu.sockets[2] == SocketPower.initial) = true ∧
    after (.socketCurrentReading 2 2) (r 15) (fun t => t.rlu.sockets[2].openStreak == 0) = true ∧
    after (.socketCurrentReading 2 1) (r 14) (fun t => t.rlu.sockets[2].openStreak == 15) = true ∧
    after (.socketCurrentReading 2 1) (r 15) (fun t => t.socketState 2 == .failed && !t.switchLine 2) = true := by
  decide +kernel

/-- One dA above twice the threshold, with a retry left and with none, in a history with room and in a full one; with a token
that a pending release takes; at twice the threshold; and at the instant of the check that settled the socket, and 25 ns later. -/
theorem wit_InstantTripRetriesOrFails :
    let s := heaterAt (socketAt running .running true) .on 1 []
    let last := s.modRecord 2 (fun r => { r with retries := 1 })
    let pending : State := { s with thu := { s.thu with releasePending := true }, bdu := { s.bdu with ownHeld := 50 } }
    let check := converted ((socketAt running .powering true).modPower 2 (fun p => { p with openCheck := some 0 })) (.current 2)
    s.rlu.sockets[2].closed = true ∧ (s.socketState 2).powered = true ∧ 2 * s.rlu.sockets[2].threshold < 41 ∧
    s.acu.records[2].retries < s.prof.retryLimit ∧
    last.prof.retryLimit ≤ last.acu.records[2].retries ∧
    after (.instantTrip 2 41) s (fun t => t.socketState 2 == .retry && t.rlu.sockets[2].retryWait == some 3 &&
      t.rlu.sockets[2].allowance == 20 && t.acu.history.length == 1) = true ∧
    after (.instantTrip 2 41) s (fun t => t.acu.history == [s.entryOf 2 (.overcurrent 40 1) false] && !t.heaterLine 2 &&
      t.thu.tokens == 1 && t.thu.heaters[2].inForce == 0) = true ∧
    after (.instantTrip 2 41) pending (fun t => t.thu.tokens == 0 && t.bdu.ownHeld == 45 && !t.heaterLine 2) = true ∧
    after (.instantTrip 2 41) last (fun t => t.socketState 2 == .failed && t.rlu.sockets[2].allowance == 0) = true ∧
    after (.instantTrip 2 41) (withHistory s 48 false) (fun t => t.acu.history.length == 48 && t.acu.overflow) = true ∧
    after (.instantTrip 2 40) s (· == s) = true ∧ s.rlu.sockets[2].settledNow = false ∧
    after (.instantTrip 2 99) (socketAt running .off false) (· == socketAt running .off false) = true ∧
    after (.socketCurrentReading 2 2) check (fun t => t.socketState 2 == .settled && t.rlu.sockets[2].settledNow &&
      after (.instantTrip 2 41) t (· == t) &&
      (match step t with
        | .next u => after (.instantTrip 2 41) u (fun v => v.socketState 2 == .retry)
        | _ => false)) = true := by decide +kernel

/-- OFF; RAMPING at the edge of tolerance and past it; UP within, at the third and at the fourth bad reading; RETARGETING
past tolerance, and at its edge with rails left and with none; FALLING at a tenth and below it. -/
theorem wit_RailReadingIsJudgedByItsState :
    let read (r : Rail) (s : State) : State := converted s (.rail r)
    let up (k : Nat) : State := read .a { running with rlu := { running.rlu with
      rails := Vector.replicate 3 { state := .up, level := 1, streak := k, timer := none } } }
    let moving (r : Rail) : State := read r { railsAt (demo .active (some .transition)) .retargeting with
      rcu := { (demo .active (some .transition)).rcu with transit := some { target := 7, stage := .retargeting } } }
    let fall := read .c (railsAt (demo .windDown none) .falling)
    after (.railReading .a 0) (read .a running) (· == running) = true ∧
    after (.railReading .b 1899) (read .b (railsAt running .ramping)) (· == railsAt running .ramping) = true ∧
    after (.railReading .b 1900) (read .b (railsAt running .ramping))
      (fun t => t.railState .b == .up && t.rlu.rails[2].timer == some 400000) = true ∧
    after (.railReading .c 2100) (read .c (railsAt running .ramping)) (fun t => t.railState .c == .up) = true ∧
    after (.railReading .a 2000) (up 3) (fun t => t.rlu.rails[0].streak == 0) = true ∧
    after (.railReading .a 2101) (up 2) (fun t => t.rlu.rails[0].streak == 3) = true ∧
    after (.railReading .a 2101) (up 3) (fun t => t.rcu.sub == some .recovering && t.railsOff) = true ∧
    after (.railReading .b 1899) (moving .b) (· == (moving .b).handed) = true ∧
    after (.railReading .b 1900) (moving .b) (fun t => t.railState .b == .up && t.rlu.rails[2].level == 0) = true ∧
    after (.railReading .c 1900) (moving .c) (fun t => t.rcu.transit == some { target := 7, stage := .complete }) = true ∧
    after (.railReading .c 200) fall (· == fall.handed) = true ∧
    after (.railReading .c 199) fall (fun t => t.railState .c == .off) = true := by decide +kernel

/-- At the interruption limit and above it; in WINDDOWN; a rail that is UP; an interruption of each cause in RECOVERING, and
one in DONE and in LISTEN. -/
theorem wit_SettleTimeoutInterruptsTheRun :
    let s := socketAt (railsAt running .ramping) .running true
    let above : State := { s with rcu := { s.rcu with intCount := 1 } }
    let w := railsAt (demo .windDown none) .retargeting
    let recov := { demo .active (some .recovering) with
      rcu := { (demo .active (some .recovering)).rcu with recoverMarks := 1, intCount := 1 } }
    s.railState .b = .ramping ∧ s.rcu.state = .active ∧ s.rcu.sub ≠ some .recovering ∧
    s.rcu.intCount + 1 ≤ s.prof.interruptionLimit ∧ above.prof.interruptionLimit < above.rcu.intCount + 1 ∧
    w.railState .b = .retargeting ∧ w.rcu.state = .windDown ∧
    after (.railSettleTimeout .b) s (fun t => t.rcu.sub == some .recovering && t.socketState 2 == .parked && t.railsOff) =
      true ∧
    after (.railSettleTimeout .b) above (fun t => t.rcu.state == .done && t.rcu.endCause == some .stopped) = true ∧
    after (.railSettleTimeout .b) w (fun t => t.rcu.state == .done && t.acu.history.length == 1) = true ∧
    after (.railSettleTimeout .b) (railsAt running .up) (· == railsAt running .up) = true ∧
    (s.interrupt .bulk).rcu.recoverBulk = true ∧ (s.interrupt .bulk).rcu.recoverUnheard = false ∧
    (s.interrupt .unheard).rcu.recoverUnheard = true ∧ (s.interrupt .board).rcu.recoverMarks = 0 ∧
    (recov.interrupt .bulk).rcu = { recov.rcu with recoverBulk := true } ∧
    (recov.interrupt .unheard).rcu = { recov.rcu with recoverUnheard := true } ∧
    (recov.interrupt .rail).rcu = recov.rcu ∧ (recov.interrupt .board).acu.history.length = 1 ∧
    (demo .done none).interrupt .unheard = (demo .done none).writeInterruption .unheard ∧
    (demo .listen none).interrupt .bulk = demo .listen none := by
  decide +kernel

/-- The next rail UP, RETARGETING and OFF, with its level and its settle time; with every rail below OFF; rail A. -/
theorem wit_FallTimeoutTakesTheRailDown :
    let w0 := demo .windDown none
    let w : State := { railsAt w0 .up with rcu := { w0.rcu with poweringDown := true } }
    let f (r : Rail) := w.modRail r (fun u => { u with state := .falling })
    let b (st : RailState) := (f .c).modRail .b (fun u => { u with state := st })
    let lone := (b .off).modRail .a (fun u => { u with state := .off })
    (f .c).railState .c = .falling ∧ (f .c).railState .b = .up ∧ (f .b).railState .a = .up ∧
    after (.railFallTimeout .c) (f .c) (fun t => t.railState .c == .off && t.railState .b == .falling) = true ∧
    after (.railFallTimeout .c) (b .retargeting) (fun t => t.railState .b == .falling && t.railLevelLine .b == 1 &&
      t.rlu.rails[1].timer == some 400000) = true ∧
    after (.railFallTimeout .c) (b .off) (fun t => t.railState .b == .off && t.railState .a == .falling) = true ∧
    after (.railFallTimeout .c) lone (fun t => t.railsOff && t.rcu.state == .done) = true ∧
    after (.railFallTimeout .b) (f .b) (fun t => t.railState .b == .off && t.railState .a == .falling) = true ∧
    after (.railFallTimeout .a) (f .a) (fun t => t.railState .a == .off && t.rcu.state == .done) = true := by decide +kernel

/-- At the threshold and below it, with the status good and low, one short of each count and at it; the report of a low bulk
in ACTIVE with the rails UP, in ACTIVE and WINDDOWN with all rails OFF, in DONE and in LISTEN. The board current with all rails
OFF, at the own held, and above it for the seventh and the eighth time. -/
theorem wit_BulkAndBoardReadingsAreJudged :
    let s (low : Bool) (k : Nat) : State := converted
      { running with rlu := { running.rlu with bulkLow := low, lowStreak := k, highStreak := k, deferred := low } } .bulk
    let low (u : State) : State := converted { u with rlu := { u.rlu with lowStreak := 3 } } .bulk
    let b (k : Nat) : State := converted
      { railsAt running .up with bdu := { running.bdu with ownHeld := 50 }
                                 rlu := { (railsAt running .up).rlu with boardStreak := k } } .board
    (s false 3).ending = some .bulk ∧ (b 7).ending = some .board ∧
    after (.bulkReading 9000) (s false 3) (fun t => t.rlu.lowStreak == 0) = true ∧
    after (.bulkReading 8999) (s false 2) (fun t => t.rlu.lowStreak == 3 && !t.rlu.bulkLow) = true ∧
    after (.bulkReading 8999) (s false 3) (fun t => t.rlu.bulkLow && t.holdFlag && t.acu.history == []) = true ∧
    after (.bulkReading 8999) (low (railsAt running .up)) (fun t => t.rcu.sub == some .recovering) = true ∧
    after (.bulkReading 8999) (low (demo .windDown none)) (fun t => t.rlu.bulkLow && t.acu.history == []) = true ∧
    after (.bulkReading 8999) (low (demo .done none)) (fun t => t.rlu.bulkLow && t.acu.history.length == 1) = true ∧
    after (.bulkReading 8999) (low (demo .listen none)) (fun t => t.rlu.bulkLow && t.acu.history == []) = true ∧
    after (.bulkReading 8999) (s true 98) (fun t => t.rlu.highStreak == 0) = true ∧
    after (.bulkReading 9000) (s true 98) (fun t => t.rlu.highStreak == 99 && t.rlu.bulkLow) = true ∧
    after (.bulkReading 9000) (s true 99) (fun t => !t.rlu.bulkLow && t.railState .a == .ramping) = true ∧
    (b 7).railsOff = false ∧ running.railsOff = true ∧
    after (.boardCurrentReading 9) (converted running .board) (· == running) = true ∧
    after (.boardCurrentReading 50) (b 7) (fun t => t.rlu.boardStreak == 0 && t.rcu.intCount == 0) = true ∧
    after (.boardCurrentReading 51) (b 6) (fun t => t.rlu.boardStreak == 7) = true ∧
    after (.boardCurrentReading 51) (b 7) (fun t => t.rcu.intCount == 1 && t.bdu.ownHeld == 0) = true := by decide +kernel

/-! ### Heat -/

/-- The demonstration window is 0 to 100 with a margin of 5 °C: the bounds of every band, and the first invalid codes; a
powered WARM socket in a mark scan; a FAILED socket's invalid code; the first and the second TRIP of a heated socket. -/
theorem wit_TemperatureReadingIsJudged :
    let at2 (s : State) : State := converted s (.temperature 2)
    let b (code : Half) (band : Band) : Bool :=
      after (.temperatureReading 2 code) (at2 running)
        (fun t => t.thu.heaters[2].band == band && t.acu.records[2].lastTemp == code.toInt &&
          t.thu.heaters[2].window == (0, 100))
    let hot := at2 (heaterAt (socketAt running .running true) .on 1 [])
    let warm : State := { hot with scanner := { hot.scanner with scan := some .mark }
                                   acu := { hot.acu with socketGate := Vector.replicate 16 true } }
    let in1 (s : State) : State := { s with rcu := { s.rcu with
      phase := 1, plan := s.rcu.plan.set 1 (some { demoEntry 1 with lo := 20, hi := 50 }) } }
    let down := demo .windDown none
    (at2 running).ending = some (.temperature 2) ∧ running.socketState 2 = .off ∧ running.window = (0, 100) ∧
    (in1 running).window = (20, 50) ∧ (in1 down).window = (20, 50) ∧
    (in1 { down with rcu := { down.rcu with poweringDown := true } }).window = (0, 100) ∧
    (in1 (demo .idle none)).window = (0, 100) ∧ State.reset.window = (-80, 430) ∧
    b 0xFFB0 .cold = true ∧ b 0xFFFF .cold = true ∧ b 0 .window = true ∧ b 100 .window = true ∧ b 101 .warm = true ∧
    b 110 .warm = true ∧ b 111 .trip = true ∧ b 430 .trip = true ∧
    after (.temperatureReading 2 0xFFAF) (at2 running) (fun t => t.thu.heaters[2].band == .unknown &&
      t.thu.heaters[2].sensorStreak == 1 && t.acu.history.length == 1) = true ∧
    after (.temperatureReading 2 431) (at2 (running.modHeater 2 (fun h => { h with sensorStreak := 255 })))
      (fun t => t.thu.heaters[2].sensorStreak == 255 && t.acu.history == []) = true ∧
    after (.temperatureReading 2 431) (at2 ((socketAt running .failed false).modHeater 2 (fun h => { h with sensorStreak := 9 })))
      (fun t => t.thu.heaters[2].sensorStreak == 0 && t.acu.history == []) = true ∧
    after (.temperatureReading 2 110) warm (fun t => t.thu.markScanWarm && !t.acu.socketGate[2] && t.heaterLine 2) = true ∧
    after (.temperatureReading 2 100) warm (fun t => !t.thu.markScanWarm && t.acu.socketGate[2]) = true ∧
    (hot.socketState 2).powered = true ∧ (111 : Half).toInt ≤ 430 ∧ hot.window.2 + 2 * hot.prof.tripMargin < (111 : Half).toInt ∧
    after (.temperatureReading 2 111) hot
      (fun t => t.thu.heaters[2].tripStreak == 1 && !t.heaterLine 2 && t.switchLine 2) = true ∧
    after (.temperatureReading 2 111) (hot.modHeater 2 (fun h => { h with tripStreak := 1 }))
      (fun t => t.socketState 2 == .failed && !t.switchLine 2) = true := by decide +kernel

/-- The half-round request without a WARM finding, with the scanner at rest, with a scan in progress, and with a mark's scan held
already. A scan at its completion, with a heating-eligible socket in each band, at the middle of its window and just below it,
and of the window it was classed against where another is in force;
a TRIP socket whose heater is ON, its token going to heater 4, or to a pending release; one that is WAITING. -/
theorem wit_ScansAreRequestedAndCompleted :
    let w : State := { running with thu := { running.thu with markScanWarm := true } }
    let busy : State := { w with scanner := { w.scanner with scan := some .mark, channel := 3 } }
    let s (band : Band) (temp : Int) : State :=
      let u := (heaterAt (socketAt running .running true) .on 1 []).modHeater 2
        (fun h => { h with band := band, lastTemp := temp, window := (0, 100) })
      { u with scanner := { u.scanner with scan := some .half, channel := 16, held := some .mark } }
    let held : State := { busy with scanner := { busy.scanner with held := some .mark } }
    let hot (queue : List Socket) (ph : HeaterPhase) (release : Bool) : State :=
      let u := State.modHeater { s .trip 111 with thu := { (s .trip 111).thu with waitQueue := queue, releasePending := release } } 2
        (fun h => { h with phase := ph })
      if 4 ∈ queue then u.modHeater 4 (fun h => { h with phase := .waiting, inForce := 7 }) else u
    let on (band : Band) (temp : Int) (n : Nat) : Bool :=
      after .scanCompletion (s band temp) (fun t => t.thu.heaters[2].onTime == n && t.acu.records[2].onTime == n &&
        t.scanner.scan == some .mark)
    running.running = true ∧ running.thu.markScanWarm = false ∧ w.scanner.scan = none ∧ busy.scanner.held = none ∧
    after .halfRoundScan running (· == running) = true ∧
    after .halfRoundScan w (fun t => t.scanner.scan == some .half) = true ∧
    after .halfRoundScan busy (fun t => t.scanner.scan == some .mark && t.scanner.held == some .half) = true ∧
    after .halfRoundScan held (fun t => t.scanner.held == some .mark) = true ∧
    (hot [4] .on false).queueMatches ∧ (hot [2] .waiting false).queueMatches ∧ (hot [] .on true).queueMatches ∧
    after .scanCompletion (hot [4] .on false) (fun t => !t.heaterLine 2 && t.heaterLine 4 && t.thu.waitQueue == [] &&
      t.thu.heaters[4].onLeft == some 280000 && t.thu.tokens == 1) = true ∧
    after .scanCompletion (hot [2] .waiting false) (fun t => t.thu.waitQueue == [] && t.thu.heaters[2].phase == .offTime) = true ∧
    after .scanCompletion (hot [] .on true) (fun t => t.thu.tokens == 0 && !t.thu.releasePending) = true ∧
    (s .cold 0).eligible 2 = true ∧ (s .cold 0).eligible 3 = false ∧ on .cold (-1) 50 = true ∧ on .window 49 40 = true ∧
    (s .window 40).window = (0, 100) ∧ on .window 40 40 = true ∧
    after .scanCompletion ((s .window 40).modHeater 2 (fun h => { h with window := (20, 50) }))
      (fun t => t.thu.heaters[2].onTime == 20) = true ∧
    on .window 50 20 = true ∧ on .warm 101 0 = true ∧ on .trip 111 0 = true ∧ on .unknown 0 0 = true := by
  unfold State.queueMatches
  decide +kernel

/-- A period start with no on-time, with a token free and with none, of a heater that is ON, its token free again, and of one
that is WAITING, which goes to the tail; an on-phase that ends under a pending release, with no
heater waiting and with heater 4 waiting. -/
theorem wit_HeatersTakeAndReturnTokens :
    let s (tokens : Nat) := heaterAt running .stopped tokens []
    let on (release : Bool) (queue : List Socket) : State :=
      let t := heaterAt running .on 1 queue
      { t with thu := { t.thu with releasePending := release } }
    (s 0).thu.anchor ≠ none ∧ (s 1).thu.onCount < (s 1).thu.tokens ∧ (s 0).thu.tokens ≤ (s 0).thu.onCount ∧
    after (.heaterPeriodStart 2) ((s 1).modHeater 2 (fun h => { h with onTime := 0 }))
      (fun t => t.thu.heaters[2].phase == .offTime) = true ∧
    after (.heaterPeriodStart 2) (s 1) (fun t => t.heaterLine 2 && t.thu.heaters[2].onLeft == some 1200000) = true ∧
    after (.heaterPeriodStart 2) (s 0) (fun t => t.thu.heaters[2].phase == .waiting && t.thu.waitQueue == [2]) = true ∧
    2 ∉ (on false []).thu.waitQueue ∧
    after (.heaterPeriodStart 2) (on false []) (fun t => t.heaterLine 2 && t.thu.heaters[2].onLeft == some 1200000) = true ∧
    after (.heaterPeriodStart 2) (on false [4]) (fun t => t.heaterLine 4 && t.thu.waitQueue == [2]) = true ∧
    after (.heaterPeriodStart 2) (heaterAt running .waiting 0 [2, 4])
      (fun t => t.thu.waitQueue == [4, 2] && t.thu.heaters[2].phase == .waiting) = true ∧
    after (.heaterOnEnd 2) (on true []) (fun t => t.thu.tokens == 0 && !t.heaterLine 2) = true ∧
    after (.heaterOnEnd 2) (on false []) (fun t => t.thu.tokens == 1 && !t.heaterLine 2) = true ∧
    after (.heaterOnEnd 2) (on false [4]) (fun t => t.heaterLine 4 && t.thu.waitQueue == []) = true := by decide +kernel

/-! ### Passes -/

/-- Each row of the token count check: short of a token, at the count, above it with a release pending, with a token free and
with none; a mark that enters HELD sets an anchor, heater 0 with an on-time taking a free token and waiting without one; and
the gates of a new round. -/
theorem wit_MarkSetsTokensAnchorAndGates :
    let s (tokens : Nat) (ph : HeaterPhase) (release : Bool) : State :=
      let t := heaterAt (socketAt running .running true) ph tokens []
      { t with thu := { t.thu with releasePending := release }, bdu := { t.bdu with ownHeld := 40, queue := [.heater] } }
    let warm (tokens : Nat) : State :=
      State.modHeater { running with thu := { running.thu with tokens := tokens } } 0 (fun h => { h with onTime := 30 })
    running.eligible 2 = false ∧ (s 0 .on false).eligible 2 = true ∧ (socketAt running .settled true).eligible 2 = true ∧
    (socketAt (demo .active (some .held)) .settled true).eligible 2 = true ∧
    (socketAt (demo .active (some .recovering)) .settled true).eligible 2 = false ∧
    (socketAt (demo .windDown none) .running true).eligible 2 = true ∧
    (s 0 .offTime true).tokenCheck.bdu.queue = [.heater] ∧ (s 0 .offTime true).tokenCheck.thu.releasePending = false ∧
    (s 1 .on true).tokenCheck.bdu.queue = [] ∧ (s 1 .on true).tokenCheck.thu.releasePending = false ∧
    (s 2 .on true).tokenCheck.thu.releasePending = true ∧ (s 2 .on false).tokenCheck.bdu.ownHeld = 35 ∧
    ((s 2 .on false).modHeater 3 (fun h => { h with phase := .on })).tokenCheck.thu.releasePending = true ∧
    (running.heatMark none).thu.anchor = some 7 ∧ (running.heatMark (some .running)).thu.anchor = none ∧
    (running.heatMark none).thu.heaters[15].nextStart = some 3750000 ∧
    (warm 1).setAnchor.thu.heaters[0].phase = .on ∧ (warm 0).setAnchor.thu.waitQueue = [0] ∧
    running.setAnchor.thu.heaters[0].phase = .offTime ∧ (s 1 .on true).setAnchor.thu.tokens = 0 ∧
    (playing (socketAt running .running true) false 0).openGates.acu.stationGate = true ∧
    running.openGates.acu.stationGate = false ∧ (socketAt running .running true).openGates.acu.socketGate[2] = true ∧
    (socketAt running .powering true).openGates.acu.powered[2] = true := by decide +kernel

/-- A match, a mismatch, and a re-entry pass; a mismatch short of the threshold with and without the soft flag, and at it; the
next pass, of a vector of two clocks, of one clock alone, and of one clock before another; a stop; the stop of a WINDDOWN with cause COMPLETE, rail C OFF; a finish request in each engine state. -/
theorem wit_PassEndChecksAndGoesOn :
    let s (sig : Half) := playing (socketAt running .running true) false sig
    let re : State := { s 0 with ptu := { (s 0).ptu with reentryLeft := 1 } }
    let again (streak : Nat) (soft : Bool) : State := State.modRecord { s 0 with bdu := { (s 0).bdu with ownHeld := 50 } } 2
      (fun r => { r with streak := streak, soft := soft })
    let next := playing (socketAt running .settled true) false 0xFFFF
    let short (count : Nat) : State := { next with
      ptu := { next.ptu with loop := some { first := 0, count := count, latency := 3, sigTrue := 0xFFFF, sigInverted := 0 }
                             align := [false] }
      ldr := { next.ldr with profile := some { demoProfile with
        vectors := [{ drive := 0x0F, compare := true, clocks := 1 }, { drive := 0xF0, compare := false, clocks := 7 }] } } }
    let stop := playing running true 0xFFFF
    let whole : State := State.modRail
      { playing (heaterAt (socketAt (railsAt (demo .windDown none) .up) .running true) .on 1 []) true 0xFFFF with
        bdu := { Bdu.initial with ownHeld := 55 } } .c (fun _ => RailUnit.initial)
    (s 0).ptu.reentryLeft = 0 ∧ (s 0).ptu.members[2] = true ∧ (s 0).socketState 2 = .running ∧
    after .passEnd (s 0xFFFF) (fun t => t.acu.records[2].passCount == 1 && t.acu.records[2].mismatchCount == 0) = true ∧
    after .passEnd (s 0) (fun t => t.acu.records[2].passCount == 0 && t.acu.records[2].mismatchCount == 1 &&
      t.acu.history == [{ finding := .soft 0 false, final := false, socket := some 2, phase := 0, round := 7, credit := some 0 }] &&
      t.acu.records[2].soft && t.acu.records[2].streak == 1) = true ∧
    after .passEnd (again 0 true) (fun t => t.acu.history == [] && t.socketState 2 == .running) = true ∧
    after .passEnd (again 1 true) (fun t => t.socketState 2 == .failed && !t.switchLine 2 && t.bdu.ownHeld == 30 &&
      t.acu.history == [{ finding := .functional 0 false, final := true, socket := some 2, phase := 0, round := 7
                          credit := some 0 }]) = true ∧
    after .passEnd re (fun t => t.acu.records[2].mismatchCount == 0 && t.ptu.reentryLeft == 0) = true ∧
    next.ptu.engine = .playing ∧ next.ptu.finishPending = false ∧ stop.ptu.engine = .stopping ∧
    stop.ptu.finishPending = true ∧
    after .passEnd next (fun t => t.ptu.passIndex == 1 && t.ptu.inverted && t.socketState 2 == .running && t.ptu.dclk &&
      t.ptu.drv == 0xF0 && t.ptu.vector == 0 && t.ptu.clocksLeft == 1 && t.ptu.drainLeft == 1) = true ∧
    after .passEnd (short 1) (fun t => t.ptu.vector == 0 && t.ptu.clocksLeft == 0 && t.ptu.drainLeft == 3 &&
      t.ptu.align == [true] && !t.ptu.strobe) = true ∧
    after .passEnd (short 2) (fun t => t.ptu.vector == 1 && t.ptu.clocksLeft == 7 && t.ptu.dclk && t.ptu.drv == 0xF0) = true ∧
    after .passEnd stop (fun t => t.ptu.engine == .stopped && t.ptu.drv == 0xAA) = true ∧
    whole.rcu.state = .windDown ∧ whole.rcu.poweringDown = false ∧ whole.thu.onCount ≤ whole.thu.tokens ∧
    whole.railState .b = .up ∧ whole.railState .c = .off ∧ whole.railsOff = false ∧
    after .passEnd whole (fun t => t.railState .b == .falling && t.bdu.ownHeld == 30 && !t.switchLine 2 && !t.heaterLine 2 &&
      t.socketState 2 == .off && t.rcu.poweringDown && t.acu.records[2].passCount == 1) = true ∧
    whole.stopComplete.bdu.ownHeld = 30 ∧ (demo .windDown none).stopComplete.rcu.state = .done ∧
    next.requestFinish.ptu.engine = .stopping ∧ stop.requestFinish = stop ∧
    { whole with ptu := Ptu.initial }.requestFinish.railState .b = .falling ∧
    { whole with ptu := { Ptu.initial with engine := .static } }.requestFinish.railState .b = .falling := by decide +kernel

/-- A loop phase from a stopped engine, in slot 31; a STATIC phase; a STOPPING engine; the ends of BRINGUP and of HELD. -/
theorem wit_PatternStartsAtTheMark :
    let s := socketAt running .settled true
    let far : State := { s with ldr := { s.ldr with straps := some { slot := 31, rate := true } } }
    let static : State := { s with rcu := { s.rcu with
      plan := s.rcu.plan.set 0 (some { demoEntry 0 with pattern := .static, staticDrive := 0x3C }) } }
    let bring := railsAt (socketAt (demo .active (some .bringUp)) .settled true) .up
    let held : State := { demo .active (some .held) with
      rcu := { (demo .active (some .held)).rcu with remembered := some .running } }
    far.rcu.entry far.rcu.phase = some (demoEntry 0) ∧ far.prof.loops[0]? = demoProfile.loops.head? ∧
    (far.requestStart 1).ptu.acc = 0xF80000 ∧ (far.requestStart 1).ptu.reentryLeft = 1 ∧
    (far.requestStart 1).ptu.align = [false] ∧ (far.requestStart 1).ptu.members[2] = true ∧
    (far.requestStart 1).ptu.clocksLeft = 2 ∧
    (static.requestStart 0).driveLines = 0x3C ∧ (static.requestStart 0).socketState 2 = .running ∧
    ((playing running true 0).requestStart 3).ptu.engine = .playing ∧ ((playing running true 0).requestStart 3).ptu.reentryLeft = 0 ∧
    bring.railsUp = true ∧ (bring.runMark false false).rcu.sub = some .running ∧
    (bring.runMark false false).ptu.engine = .playing ∧ (held.runMark false false).ptu.reentryLeft = 1 := by decide +kernel

/-! ### Run control and the budget -/

/-- A START with no peer, and one that joins a peer in phase 1, with and without rack hold. -/
theorem wit_StartSetsUpTheRun :
    let s0 := demo .idle none
    let s : State := { s0 with rcu := { s0.rcu with startPending := true } }
    let j := withPeer s .live 0 (report 1 false) true
    s.rcu.planComplete = true ∧ s.bdu.queue = [] ∧ s.joinPhases = [] ∧ j.joinPhases = [1] ∧ j.isOwn 0 = false ∧
    j.biu.rxStatus[0] = some (report 1 false) ∧ (s.runMark false false).rcu.phase = 0 ∧ (j.runMark false false).rcu.phase = 1 ∧
    (withPeer s .live 0 { report 1 false with rackCode := 1 } true).joinPhases = [] ∧
    (s.runMark false false).rcu.sub = some .bringUp ∧ (s.runMark true false).rcu.sub = some .held ∧
    (s.runMark false false).target 1 = 1500 ∧ (j.runMark false false).rcu.lateMark = some 1 ∧
    (j.runMark false false).acu.records[2].credit = [0, 0] := by decide +kernel

theorem wit_RackHoldHoldsAndReleases :
    let p := playing running false 0
    let held (r : SubState) : State :=
      let h := demo .active (some .held)
      { h with rcu := { h.rcu with remembered := some r } }
    (p.runMark true false).rcu.sub = some .held ∧ (p.runMark true false).ptu.engine = .stopping ∧
    ((demo .active (some .bringUp)).runMark true false).rcu.remembered = some .bringUp ∧
    (held .running).runMark true false = held .running ∧
    ((held .running).runMark false false).rcu.sub = some .running ∧
    ((held .running).runMark false false).ptu.reentryLeft = 1 ∧
    ((held .bringUp).runMark false false).rcu.sub = some .bringUp := by decide +kernel

/-- A peer in a higher phase; agreement; no agreement; an ADVANCE at the last phase, which ends the run. -/
theorem wit_AdvanceTargetFollowsTheVotes :
    let v : State := { running with rcu := { running.rcu with sentVote := true } }
    let up := withPeer running .live 0 (report 1 false) true
    let agree := withPeer v .live 0 (report 0 true) true
    let no := withPeer v .live 0 (report 0 false) true
    let last : State := { no with rcu := { no.rcu with phase := 1, advance := some 1, sentVote := false } }
    up.considered 0 = true ∧ (withPeer v .silent 1 (report 1 false) false).considered 0 = true ∧
    (withPeer v .lost 2 (report 1 false) false).considered 0 = false ∧
    (withPeer v .live 0 { report 1 false with planCode := 1 } true).considered 0 = false ∧ up.advanceTarget = 1 ∧ agree.agreed = true ∧ agree.advanceTarget = 1 ∧
    no.agreed = false ∧ no.advanceTarget = 0 ∧ no.runMark false false = no ∧
    (agree.runMark false false).rcu.sub = some .transition ∧ last.advanceTarget = 2 ∧ last.rcu.planLength = 2 ∧
    (last.runMark false false).rcu.endCause = some .complete := by decide +kernel

/-- A plan whose second phase raises every rail by a level, and whose third lowers rail C alone. -/
def steps : Vector (Option PlanEntry) 12 :=
  ((Vector.replicate 12 none).set 0 (some { demoEntry 0 with length := 3 })).set 1
    (some { demoEntry 1 with length := 3, levelA := 2, levelB := 2, levelC := 2 }) |>.set 2
    (some { demoEntry 2 with length := 3, levelC := 0 })

/-- A transition to a phase whose delta is above 0, to one that moves no current, and to the phase itself, at which nothing
differs; the arrival without rack hold, which plays the target's loop with no re-entry pass, and under it. -/
theorem wit_TransitionFollowsItsDelta :
    let base := railsAt (socketAt (demo .active (some .transition)) .running true) .up
    let toward (target : Nat) (stage : TransitStage) : State :=
      { base with rcu := { base.rcu with plan := steps, transit := some { target := target, stage := stage }
                                         advance := some 0 } }
    (toward 1 .stopping).delta 1 = 20 ∧ (toward 1 .stopping).stopComplete.bdu.queue = [.transition] ∧
    (toward 2 .stopping).delta 2 = 0 ∧ (toward 2 .stopping).stopComplete.railState .c = .retargeting ∧
    (toward 2 .stopping).stopComplete.railState .a = .up ∧
    ((toward 1 .granting).startRetarget 1).railState .a = .retargeting ∧
    ((toward 1 .granting).startRetarget 1).rlu.sockets[2].allowance = 30 ∧
    ((toward 0 .granting).startRetarget 0).rcu.transit = some { target := 0, stage := .complete } ∧
    ((toward 0 .granting).startRetarget 0).bdu.ownHeld = 50 ∧
    ((toward 2 .complete).runMark false false).rcu.phase = 2 ∧ ((toward 2 .complete).runMark false false).rcu.advance = none ∧
    ((toward 2 .complete).runMark false false).acu.records[2].credit = [0, 0, 0] ∧
    ((toward 2 .complete).runMark false false).ptu.engine = .playing ∧
    ((toward 2 .complete).runMark false false).ptu.loop = demoProfile.loops.head? ∧
    ((toward 2 .complete).runMark false false).ptu.reentryLeft = 0 ∧ (toward 2 .complete).prof.reentry = 1 ∧
    ((toward 2 .complete).runMark false false).ptu.members[2] = true ∧
    ((toward 2 .complete).runMark true false).ptu = (toward 2 .complete).ptu ∧
    ((toward 2 .complete).runMark true false).rcu.sub = some .held := by decide +kernel

/-- A peer holds 950 and asks for 40 of a budget of 1000: granted, and not where it holds 961; the rows of the table's other
presences; a prediction. A budget mark that grants the own ask, and one that missed a peer's frame. -/
theorem wit_GrantsFitTheBudgetAndTheTrust :
    let p (presence : Presence) (held : Nat) := withPeer running presence 0 { report 0 true with held := held } true
    let own : State := { running with biu := { running.biu with tx := .sentWhole }
                                      bdu := { running.bdu with sentAsked := 20, sentNeed := some (.socket 2)
                                                                queue := [.socket 2] } }
    let facts (missed : Bool) : MarkFacts := { round := 7, disagreeing := false, missedPeer := missed }
    (p .live 960).granted 7 = [0] ∧ (p .live 961).granted 7 = [] ∧ (p .live 1001).prof.budget < (p .live 1001).tableSum ∧
    (p .live 1001).granted 7 = [] ∧ (p .lost 50).countedHeld 0 = 90 ∧ (p .absent 50).countedHeld 0 = 0 ∧
    (p .silent 50).candidate 0 = 0 ∧ ((p .live 960).budgetMark (facts false)).biu.peers[0].report.held = 1000 ∧
    visitOrder 31 = 29 :: (allStations.take 29) ∧ (visitOrder 33).head? = some 0 ∧
    own.granted 7 = [3] ∧ (own.budgetMark (facts true)).bdu = own.bdu ∧
    (own.budgetMark (facts false)).bdu.ownHeld = 20 := by decide +kernel

/-- Each need at the head, a need gone, and an amount above the asked value. -/
theorem wit_GrantedNeedIsHandedOn :
    let s (asked : Nat) (n : Need) (queue : List Need) : State :=
      { running with bdu := { running.bdu with sentAsked := asked, sentNeed := some n, queue := queue } }
    let waits := heaterAt (s 5 .heater [.heater]) .waiting 0 [2]
    let low : State := { s 30 .railBase [.railBase] with rlu := { running.rlu with bulkLow := true } }
    let tr : State := { s 1 .transition [.transition] with
      rcu := { running.rcu with sub := some .transition, transit := some { target := 1, stage := .granting } } }
    (s 20 (.socket 2) []).applyGrant = s 20 (.socket 2) [] ∧
    (s 19 (.socket 2) [.socket 2]).applyGrant = s 19 (.socket 2) [.socket 2] ∧
    (s 20 (.socket 2) [.socket 2]).socketState 2 = .off ∧ (s 20 (.socket 2) [.socket 2]).amount (.socket 2) = 20 ∧
    (s 21 (.socket 2) [.socket 2]).applyGrant.socketState 2 = .powering ∧
    (s 21 (.socket 2) [.socket 2]).applyGrant.bdu.ownHeld = 20 ∧
    (s 30 .railBase [.railBase]).applyGrant.railState .a = .ramping ∧ low.applyGrant.rlu.deferred = true ∧
    (s 5 .heater [.heater]).applyGrant.thu.tokens = 1 ∧ waits.applyGrant.heaterLine 2 = true ∧
    tr.applyGrant.rcu.transit = some { target := 1, stage := .complete } := by decide +kernel

/-! ### The history and the laws -/

/-- The 48th entry is stored, and the 49th dropped; an entry in an empty list. -/
theorem wit_EntryIsStoredAtTheTail :
    let e : Entry := { finding := .interruption .bulk 1, final := false, socket := none, phase := 3, round := 7, credit := none }
    (withHistory running 47 true).acu.history.length < 48 ∧
    ((withHistory running 47 true).writeEntry e).acu.history.length = 48 ∧
    (withHistory running 48 true).acu.history.length = 48 ∧
    (withHistory running 48 true).writeEntry e =
      { withHistory running 48 true with acu := { (withHistory running 48 true).acu with overflow := true } } ∧
    (running.writeEntry e).acu.history.head? = some e ∧
    ((withHistory running 48 true).failSocket 2 .thermal (.thermal 111)).failLine = true ∧
    ((withHistory running 48 true).interrupt .rail).rcu.intCount = 1 ∧
    after .cmdTake (withHistory running 48 true) (fun t => (t.writeEntry e).acu.history.length == 48) = true ∧
    (match step { ({ withHistory running 48 true with acu := { (withHistory running 48 true).acu with overflow := true } } : State) with
        pending := [.cmdTake] } with
      | .next t => t.acu.overflow
      | _ => false) = true := by decide +kernel

/-- The laws' hypotheses hold of a station at work, with commands that clear nothing. -/
theorem wit_StepKeepsTheLaws :
    let s : State := { heaterAt (socketAt (withHistory running 48 true) .running true) .on 1 [] with pending := [.mark] }
    s.historyBounded ∧ s.creditBounded ∧ s.tokensCover ∧ s.noIdleToken ∧ s.queueMatches ∧ s.switchesAgree ∧
    (∀ c ∈ s.pending.head?, c.mayClear = false) ∧ (∀ c ∈ s.pending.head?, c ≠ .pinReset) ∧
    (match step s with
      | .next t => t.rcu.state == .active
      | _ => false) = true := by
  refine ⟨?_, ?_, ?_, ?_, ⟨?_, ?_⟩, ?_, ?_, ?_, ?_⟩ <;>
    simp only [State.historyBounded, State.creditBounded, State.tokensCover, State.noIdleToken, State.switchesAgree] <;>
    decide +kernel

/-- The laws of the power and the heat hold of the station in IDLE, of one RUNNING with socket 2 powered and its heater on,
and after a step of the latter. -/
theorem wit_StepKeepsTheLawsOfPowerAndHeat :
    let s : State := { heaterAt (socketAt (railsAt running .up) .running true) .on 1 [] with
      bdu := { running.bdu with ownHeld := 55 }, pending := [.cmdExclude 2] }
    (demo .idle none).Lawful ∧ s.Lawful ∧ s.switchLine 2 = true ∧
    (match step s with
      | .next t => t.bdu.ownHeld == 35 && !t.switchLine 2
      | _ => false) = true := by
  refine ⟨?_, ?_, ?_, ?_⟩
  · exact {
      pool := by unfold State.poolInOrder State.tokensCover State.noIdleToken State.queueMatches; decide +kernel
      switches := by unfold State.switchesAgree; decide +kernel
      cold := by unfold State.unpoweredAreCold; decide +kernel
      finals := ⟨by decide +kernel, by decide +kernel⟩
      fresh := fun _ => rfl
      profile := fun _ => by unfold Profile.paysInOrder; decide +kernel
      sum := fun h => absurd h (by unfold State.engaged; decide +kernel)
      allowances := fun h => absurd h (by unfold State.engaged; decide +kernel)
      carry := fun h => absurd h (by unfold State.engaged; decide +kernel)
      rails := fun h => absurd h (by unfold State.engaged; decide +kernel)
      deferred := fun h => absurd h (by unfold State.engaged; decide +kernel)
      needs := fun h => absurd h (by decide +kernel)
      windDown := by decide +kernel
      falling := fun h => absurd h (by decide +kernel)
      rest := fun _ => by decide +kernel
      idle := fun _ _ _ => by decide +kernel
      muted := fun h => absurd h (by decide +kernel) }
  · have live : ({ heaterAt (socketAt (railsAt running .up) .running true) .on 1 [] with
        bdu := { running.bdu with ownHeld := 55 }, pending := [.cmdExclude 2] } : State).rcu.state = .active := rfl
    exact {
      pool := by unfold State.poolInOrder State.tokensCover State.noIdleToken State.queueMatches; decide +kernel
      switches := by unfold State.switchesAgree; decide +kernel
      cold := by unfold State.unpoweredAreCold; decide +kernel
      finals := ⟨by decide +kernel, by decide +kernel⟩
      fresh := fun _ => rfl
      profile := fun _ => by unfold Profile.paysInOrder; decide +kernel
      sum := fun _ => by
        unfold State.heldSum State.baseHeld
        decide +kernel
      allowances := fun _ => by decide +kernel
      carry := fun _ _ => by decide +kernel
      rails := fun _ r => by cases r <;> exact ⟨by decide +kernel, fun h => absurd h (by decide +kernel)⟩
      deferred := fun _ h => absurd h (by decide +kernel)
      needs := fun _ => {
        nodup := by decide +kernel
        railBase := fun h => absurd h (by decide +kernel)
        socket := fun _ h => absurd h List.not_mem_nil
        transition := fun h => absurd h (by decide +kernel)
        recovering := fun h => absurd h (by decide +kernel)
        target := fun h => absurd rfl h
        asked := fun _ _ _ h => absurd h List.not_mem_nil }
      windDown := fun h => absurd (live.symm.trans h) (by decide)
      falling := fun h => absurd (live.symm.trans h) (by decide)
      rest := fun h => absurd (Or.inl live) h
      idle := fun h => absurd live h
      muted := fun h => absurd (live.symm.trans h) (by decide) }
  · decide +kernel
  · decide +kernel

theorem wit_MutedStationStaysMuted :
    let s : State := { demo .muted none with pending := [.mark] }
    s.rcu.state = .muted ∧ (∀ c ∈ s.pending.head?, c ≠ .pinReset) ∧
    (match step s with
      | .next t => t.rcu.state == .muted && t.faultLine
      | _ => false) = true := by decide +kernel

/-- A FAILED socket under a step that does not clear. -/
theorem wit_StepKeepsFailedSockets :
    let s : State := { socketAt running .failed false with pending := [.cmdExclude 2] }
    s.socketState 2 = .failed ∧ (∀ c ∈ s.pending.head?, c.mayClear = false) ∧
    (match step s with
      | .next t => t.socketState 2 == .failed
      | _ => false) = true := by decide +kernel

end Sys2Proof.Tests
end

section
/-! SUPPORT. The fifth law under the rows that are not plain: the two of reset, the profile load, CLEAR, and a frame, which
may carry CLEAR. With them, `exec_keeps` and `keeps_tick` the law is kept by every step (R141). -/

namespace Sys2Proof.Machine

/-! ### Records and their credit -/

/-- An operation that leaves the records leaves the fifth law. -/
theorem creditBounded_of_records_eq {s t : State} (hr : t.acu.records = s.acu.records) (hs : s.creditBounded) :
    t.creditBounded := by
  unfold State.creditBounded
  rw [hr]
  exact hs

/-- An update of every record keeps the law where it keeps it of each record. -/
theorem creditBounded_mapRecords {s : State} (f : Socket → SocketRecord → SocketRecord)
    (hf : ∀ i : Socket, (f i s.acu.records[i]).credit.sum ≤ (f i s.acu.records[i]).exposure) :
    (s.mapRecords f).creditBounded := fun i => by
  rw [State.mapRecords_records]
  exact hf i

theorem creditBounded_ite {c : Prop} [Decidable c] {t u : State} (ht : t.creditBounded) (hu : u.creditBounded) :
    (if c then t else u).creditBounded := by
  split
  · exact ht
  · exact hu

/-- The credit in one phase is one term of the sum, or 0 for a phase the list does not reach. -/
theorem creditAt_le_sum (r : SocketRecord) (p : Nat) : r.creditAt p ≤ r.credit.sum := by
  unfold SocketRecord.creditAt
  by_cases hp : p < r.credit.length
  · rw [List.getD_eq_getElem _ _ hp]
    exact List.le_sum_of_mem (List.getElem_mem hp)
  · rw [List.getD_eq_default _ _ (by omega)]
    exact Nat.zero_le _

/-- A record with its exposure at the maximum passes the mark unchanged (R141). -/
theorem judgeRound_records_of_max (s : State) (hold severe : Bool) (i : Socket)
    (h : Config.countMax ≤ s.acu.records[i].exposure) :
    (s.judgeRound hold severe).acu.records[i] = s.acu.records[i] := by
  unfold State.judgeRound
  rw [State.mapRecords_records, if_neg (fun earns => absurd earns.2 (Nat.not_lt.mpr h))]

/-! ### Reset and the profile load -/

theorem creditBounded_reset : State.reset.creditBounded := fun i => by
  simp [State.reset, Acu.initial, SocketRecord.initial]

theorem creditBounded_pinReset (s : State) : s.pinReset.creditBounded :=
  creditBounded_of_records_eq rfl creditBounded_reset

theorem creditBounded_releaseReset {s : State} (slot : Slot) (rate : Bool) (hs : s.creditBounded) :
    (s.releaseReset slot rate).creditBounded := by
  unfold State.releaseReset
  exact creditBounded_ite (creditBounded_of_records_eq rfl hs) hs

theorem creditBounded_handOnProfile {s : State} (p : Profile) (image : List Byte) (hs : s.creditBounded) :
    (s.handOnProfile p image).creditBounded := by
  unfold State.handOnProfile
  refine creditBounded_mapRecords _ (fun i => ?_)
  split
  · exact hs i
  · exact hs i

theorem creditBounded_endLoad {s : State} (memory : List Byte) (hs : s.creditBounded) :
    (s.endLoad memory).creditBounded := by
  unfold State.endLoad
  refine creditBounded_ite ?_ hs
  split
  · exact creditBounded_of_records_eq rfl hs
  · next p image _ =>
    have loaded := creditBounded_handOnProfile p image hs
    exact creditBounded_ite (creditBounded_of_records_eq rfl loaded) ((keeps_enterMuted _ _).creditBounded loaded)

/-! ### CLEAR and the frame that carries it -/

/-- A judged command keeps the law where its effect does. -/
theorem creditBounded_judged {s : State} (c : BitVec 4) (inState valid : Bool) (effect : State × CmdResult)
    (hs : s.creditBounded) (he : effect.1.creditBounded) : (s.judged c inState valid effect).creditBounded := by
  unfold State.judged
  exact creditBounded_ite hs (creditBounded_ite (creditBounded_of_records_eq rfl hs)
    (creditBounded_ite (creditBounded_of_records_eq rfl hs) (creditBounded_of_records_eq rfl he)))

/-- After CLEAR every credit list is `[0]`, whatever stood before (R148). -/
theorem creditBounded_clearStation (s : State) : s.clearStation.creditBounded :=
  creditBounded_of_records_eq (s := s.mapRecords (fun i r => r.cleared (s.prof.enableMask.getLsbD i.val))) rfl
    (creditBounded_mapRecords _ (fun _ => Nat.zero_le _))

theorem creditBounded_takeClear {s : State} (hs : s.creditBounded) : s.takeClear.creditBounded :=
  creditBounded_judged _ _ _ _ hs (creditBounded_clearStation s)

/-- Among the commands of good form CLEAR alone is not of `keeps_dispatchCommand`. -/
theorem creditBounded_takeCommand {s : State} (broadcast : Bool) (code : Byte) (args : List Byte)
    (hs : s.creditBounded) : (s.takeCommand broadcast code args).creditBounded := by
  unfold State.takeCommand
  split
  · next hform =>
    simp only [formOk, Bool.and_eq_true, decide_eq_true_eq] at hform
    obtain ⟨⟨⟨one_le, le_eleven⟩, -⟩, -⟩ := hform
    by_cases clear : code.toNat = 11
    · rw [clear]
      exact creditBounded_takeClear hs
    · exact (keeps_dispatchCommand s _ args ⟨one_le, by omega⟩).creditBounded hs
  · exact (keeps_refuseForm s code).creditBounded hs

theorem creditBounded_hearCommand {s : State} (slot : Nat) (bytes : List Byte) (hs : s.creditBounded) :
    (s.hearCommand slot bytes).creditBounded := by
  unfold State.hearCommand
  split
  · exact hs
  · next f _ =>
    have stored : (s.storeCommand slot f.round).creditBounded := creditBounded_of_records_eq rfl hs
    exact creditBounded_ite (creditBounded_takeCommand _ _ _ stored) stored

/-- A frame is let pass, or heard as a command or as a status frame. -/
theorem creditBounded_hearFrame {s : State} (slot : Slot) (bytes : List Byte) (hs : s.creditBounded) :
    (s.hearFrame slot bytes).creditBounded := by
  unfold State.hearFrame
  refine creditBounded_ite hs (creditBounded_ite (creditBounded_of_records_eq rfl hs) ?_)
  refine creditBounded_ite hs (creditBounded_ite hs (creditBounded_ite hs ?_))
  split
  · exact creditBounded_hearCommand _ _ hs
  · exact (keeps_hearStatus s _ bytes).creditBounded hs

/-! ### Every row and every step -/

/-- The five rows that are not plain have their lemmas above; the others are `exec_keeps`. -/
theorem exec_creditBounded (c : Instr) {s t : State} (hs : s.creditBounded) (h : exec c s = .next t) :
    t.creditBounded := by
  cases c with
  | pinReset => cases h; exact creditBounded_pinReset s
  | resetRelease slot rate => cases h; exact creditBounded_releaseReset slot rate hs
  | profileLoadEnd memory => cases h; exact creditBounded_endLoad memory hs
  | frameReceived slot bytes => cases h; exact creditBounded_hearFrame slot bytes hs
  | cmdClear => cases h; exact creditBounded_takeClear hs
  | _ => exact (exec_keeps _ s t rfl h).creditBounded hs

/-- A step on an empty queue is the clock's; otherwise it is the front command's row. -/
theorem step_creditBounded {s t : State} (hs : s.creditBounded) (h : step s = .next t) : t.creditBounded := by
  unfold step at h
  split at h
  · cases h
    exact (keeps_tick s).creditBounded hs
  · next c rest _ =>
    have queued : State.creditBounded { s with pending := rest } := creditBounded_of_records_eq rfl hs
    exact exec_creditBounded c queued h

/-- Settles O56: reset, every step, the credit of one phase as a term of the sum, and the mark at the maximum. -/
theorem stepKeepsCreditWithinExposure : Obligations.StepKeepsCreditWithinExposure :=
  ⟨creditBounded_reset, fun _ _ => step_creditBounded, fun s hs i p => (creditAt_le_sum s.acu.records[i] p).trans (hs i),
    fun s hold severe i h => judgeRound_records_of_max s hold severe i h.ge⟩

end Sys2Proof.Machine
end

section
/-! SUPPORT. A full failure history (R155, R156). What an operation does to the history is its ledger: the list, the overflow
flag and the shown mark. Most operations neither read nor write it, and an entry written into a full ledger leaves all else
as an entry stored. -/

namespace Sys2Proof.Machine

/-! ### The ledger -/

/-- The state with another ledger: another list, overflow flag and shown mark. -/
def State.withLedger (s : State) (history : List Entry) (overflow shown : Bool) : State :=
  { s with acu := { s.acu with history := history, overflow := overflow, shown := shown } }

@[simp] theorem State.withLedger_rcu (s : State) (l : List Entry) (o m : Bool) : (s.withLedger l o m).rcu = s.rcu := rfl
@[simp] theorem State.withLedger_thu (s : State) (l : List Entry) (o m : Bool) : (s.withLedger l o m).thu = s.thu := rfl
@[simp] theorem State.withLedger_ptu (s : State) (l : List Entry) (o m : Bool) : (s.withLedger l o m).ptu = s.ptu := rfl
@[simp] theorem State.withLedger_prof (s : State) (l : List Entry) (o m : Bool) : (s.withLedger l o m).prof = s.prof := rfl

/-- An operation neither reads nor writes the ledger. -/
def LedgerBlind (f : State → State) : Prop :=
  ∀ (s : State) (l : List Entry) (o m : Bool), f (s.withLedger l o m) = (f s).withLedger l o m

theorem LedgerBlind.comp {f g : State → State} (hg : LedgerBlind g) (hf : LedgerBlind f) : LedgerBlind (g ∘ f) :=
  fun s l o m => (congrArg g (hf s l o m)).trans (hg (f s) l o m)

/-- A blind operation leaves the ledger. -/
theorem LedgerBlind.ledger {f : State → State} (hf : LedgerBlind f) (s : State) :
    (f s).acu.history = s.acu.history ∧ (f s).acu.overflow = s.acu.overflow ∧ (f s).acu.shown = s.acu.shown := by
  have same : f s = (f s).withLedger s.acu.history s.acu.overflow s.acu.shown := hf s _ _ _
  rw [same]
  exact ⟨rfl, rfl, rfl⟩

/-- An operation that writes an entry: on a full list it drops it and sets the overflow flag, and does all else as it does
on an empty list. -/
def DropsWhenFull (w : State → State) : Prop :=
  ∀ (s : State) (o m : Bool), s.acu.history.length = 48 →
    w s = (w (s.withLedger [] o m)).withLedger s.acu.history true s.acu.shown

/-! ### Writing an entry -/

/-- In a list of 48 an entry is dropped, and the overflow flag alone is set (R156). -/
theorem writeEntry_of_full (s : State) (e : Entry) (full : s.acu.history.length = 48) :
    s.writeEntry e = { s with acu := { s.acu with overflow := true } } :=
  State.writeEntry_full s e (by rw [full]; decide)

/-- With room an entry joins the list at its tail, and in an empty list it is the head, without a mark (R155). -/
theorem writeEntry_of_room (s : State) (e : Entry) (room : s.acu.history.length < 48) :
    (s.writeEntry e).acu.history = s.acu.history ++ [e] ∧
    (s.writeEntry e).acu.history.length = s.acu.history.length + 1 ∧
    (s.acu.history = [] → (s.writeEntry e).acu.history.head? = some e ∧ (s.writeEntry e).acu.shown = false) := by
  rw [State.writeEntry_room s e room]
  refine ⟨rfl, List.length_append, fun empty => ?_⟩
  simp [empty]

theorem dropsWhenFull_writeEntry (entry : State → Entry)
    (blind : ∀ (s : State) (l : List Entry) (o m : Bool), entry (s.withLedger l o m) = entry s) :
    DropsWhenFull (fun s => s.writeEntry (entry s)) := fun s o m full => by
  dsimp only
  rw [blind, writeEntry_of_full s _ full, State.writeEntry_room (s.withLedger [] o m) _ (Nat.zero_lt_succ 47)]
  rfl

theorem dropsWhenFull_writeInterruption (cause : IntCause) : DropsWhenFull (fun s => s.writeInterruption cause) :=
  dropsWhenFull_writeEntry _ (fun _ _ _ _ => rfl)

theorem dropsWhenFull_writeSocketEntry (i : Socket) (finding : Finding) (final : Bool) :
    DropsWhenFull (fun s => s.writeSocketEntry i finding final) :=
  dropsWhenFull_writeEntry _ (fun _ _ _ _ => rfl)

/-- Blind operations before and after the writing change nothing of it. -/
theorem DropsWhenFull.between {f w g : State → State} (hw : DropsWhenFull w) (hf : LedgerBlind f) (hg : LedgerBlind g) :
    DropsWhenFull (fun s => g (w (f s))) := fun s o m full => by
  obtain ⟨list, -, shown⟩ := hf.ledger s
  have dropped := hw (f s) o m (by rw [list]; exact full)
  rw [list, shown] at dropped
  calc g (w (f s)) = g ((w ((f s).withLedger [] o m)).withLedger s.acu.history true s.acu.shown) := congrArg g dropped
    _ = (g (w ((f s).withLedger [] o m))).withLedger s.acu.history true s.acu.shown := hg _ _ _ _
    _ = (g (w (f (s.withLedger [] o m)))).withLedger s.acu.history true s.acu.shown := by rw [hf s]

/-! ### Blind operations -/

theorem ledgerBlind_serveHead : LedgerBlind State.serveHead := fun s l o m => by
  unfold State.serveHead
  rw [State.withLedger_thu]
  split <;> rfl

theorem ledgerBlind_tokenReturned : LedgerBlind State.tokenReturned := fun s l o m => by
  unfold State.tokenReturned
  rw [State.withLedger_thu]
  split
  · rfl
  · exact ledgerBlind_serveHead s l o m

theorem ledgerBlind_endHeating (i : Socket) : LedgerBlind (fun s => s.endHeating i) := fun s l o m => by
  show (s.withLedger l o m).endHeating i = (s.endHeating i).withLedger l o m
  unfold State.endHeating
  rw [State.withLedger_thu]
  split
  · exact ledgerBlind_tokenReturned (s.modHeater i turnOff) l o m
  · rfl
  · rfl

theorem ledgerBlind_forceOff (i : Socket) : LedgerBlind (fun s => s.forceOff i) := fun s l o m =>
  ledgerBlind_endHeating i (s.modHeater i (fun h => { h with onTime := 0, inForce := 0 })) l o m

theorem ledgerBlind_dropSocket (i : Socket) : LedgerBlind (fun s => s.dropSocket i) := fun s l o m => by
  show (s.withLedger l o m).dropSocket i = (s.dropSocket i).withLedger l o m
  have off : ((s.withLedger l o m).modPower i openPower).forceOff i =
      ((s.modPower i openPower).forceOff i).withLedger l o m := ledgerBlind_forceOff i (s.modPower i openPower) l o m
  unfold State.dropSocket
  rw [off]
  rfl

theorem ledgerBlind_abandon : LedgerBlind State.abandon := fun s l o m => by
  unfold State.abandon
  rw [State.withLedger_ptu]
  split <;> rfl

theorem ledgerBlind_removePower : LedgerBlind State.removePower := fun s l o m => by
  have abandoned : ((s.withLedger l o m).mapPower (fun _ p => unpowered p)).stopHeating.railsDisabled.abandon =
      ((s.mapPower (fun _ p => unpowered p)).stopHeating.railsDisabled.abandon).withLedger l o m :=
    ledgerBlind_abandon (s.mapPower (fun _ p => unpowered p)).stopHeating.railsDisabled l o m
  unfold State.removePower
  rw [abandoned]
  rfl

theorem ledgerBlind_parkSockets : LedgerBlind State.parkSockets := fun _ _ _ _ => rfl

theorem ledgerBlind_socketsOff : LedgerBlind State.socketsOff := fun _ _ _ _ => rfl

/-! ### A failure and an interruption -/

/-- What a failure does once its entry is written (R135). -/
def State.failed (s : State) (i : Socket) (kind : FailKind) : State :=
  ((s.modRecord i (fun r => r.fail kind s.rcu.phase)).dropSocket i).releaseAllowance i

theorem failSocket_eq (s : State) (i : Socket) (kind : FailKind) (finding : Finding) :
    s.failSocket i kind finding = (s.writeSocketEntry i finding true).failed i kind := rfl

theorem ledgerBlind_failed (i : Socket) (kind : FailKind) : LedgerBlind (fun s => s.failed i kind) := fun s l o m =>
  congrArg (fun t => t.releaseAllowance i)
    (ledgerBlind_dropSocket i (s.modRecord i (fun r => r.fail kind s.rcu.phase)) l o m)

theorem dropsWhenFull_failSocket (i : Socket) (kind : FailKind) (finding : Finding) :
    DropsWhenFull (fun s => s.failSocket i kind finding) :=
  (dropsWhenFull_writeSocketEntry i finding true).between (f := id) (fun _ _ _ _ => rfl) (ledgerBlind_failed i kind)

/-- What an interruption in ACTIVE does before its entry is written (R44). -/
def State.abandonRun (s : State) : State :=
  let t := s.removePower.parkSockets
  { t with rcu := t.rcu.interrupted }

/-- What it does after: the run is stopped, or recovers (R45). -/
def State.stopOrRecover (s : State) (cause : IntCause) : State :=
  if s.prof.interruptionLimit < s.rcu.intCount then s.parkedOff.enterDone (some .stopped)
  else { s with rcu := s.rcu.recover cause }

theorem interruptActive_eq (s : State) (cause : IntCause) :
    s.interruptActive cause = (s.abandonRun.writeInterruption cause).stopOrRecover cause := rfl

theorem ledgerBlind_abandonRun : LedgerBlind State.abandonRun := fun s l o m =>
  congrArg (fun t : State => { t with rcu := t.rcu.interrupted })
    (ledgerBlind_parkSockets.comp ledgerBlind_removePower s l o m)

theorem ledgerBlind_stopOrRecover (cause : IntCause) : LedgerBlind (fun s => s.stopOrRecover cause) := fun s l o m => by
  show (s.withLedger l o m).stopOrRecover cause = (s.stopOrRecover cause).withLedger l o m
  unfold State.stopOrRecover
  rw [State.withLedger_prof, State.withLedger_rcu]
  split <;> rfl

theorem dropsWhenFull_interruptActive (cause : IntCause) : DropsWhenFull (fun s => s.interruptActive cause) := by
  have written := (dropsWhenFull_writeInterruption cause).between ledgerBlind_abandonRun (ledgerBlind_stopOrRecover cause)
  simpa only [interruptActive_eq] using written

theorem dropsWhenFull_interruptRecovering (cause : IntCause) : DropsWhenFull (fun s => s.interruptRecovering cause) :=
  (dropsWhenFull_writeInterruption cause).between (f := id)
    (g := fun s => { s with rcu := { s.rcu with recoverBulk := s.rcu.recoverBulk || cause == .bulk
                                                recoverUnheard := s.rcu.recoverUnheard || cause == .unheard } })
    (fun _ _ _ _ => rfl) (fun _ _ _ _ => rfl)

/-- What an interruption in WINDDOWN does before its entry is written (R47). -/
def State.abandonWinddown (s : State) : State :=
  let t := s.removePower.socketsOff
  { t with rcu := { t.rcu with intCount := t.rcu.intCount + 1 } }

theorem interruptWinddown_eq (s : State) (cause : IntCause) :
    s.interruptWinddown cause =
      (s.abandonWinddown.writeInterruption cause).enterDone (s.abandonWinddown.writeInterruption cause).rcu.endCause := rfl

theorem ledgerBlind_abandonWinddown : LedgerBlind State.abandonWinddown := fun s l o m =>
  congrArg (fun t : State => { t with rcu := { t.rcu with intCount := t.rcu.intCount + 1 } })
    (ledgerBlind_socketsOff.comp ledgerBlind_removePower s l o m)

theorem dropsWhenFull_interruptWinddown (cause : IntCause) : DropsWhenFull (fun s => s.interruptWinddown cause) := by
  have written := (dropsWhenFull_writeInterruption cause).between (g := fun s => s.enterDone s.rcu.endCause)
    ledgerBlind_abandonWinddown (fun _ _ _ _ => rfl)
  simpa only [interruptWinddown_eq] using written

/-- An interruption that finds the list full is acted on as with its entry stored (R156), in every transmitting state. -/
theorem interrupt_of_full (s : State) (cause : IntCause) (o m : Bool) (full : s.acu.history.length = 48)
    (transmits : s.transmits = true) :
    s.interrupt cause =
      ((s.withLedger [] o m).interrupt cause).withLedger s.acu.history true s.acu.shown := by
  unfold State.transmits at transmits
  unfold State.interrupt
  rw [State.withLedger_rcu]
  split
  · split
    · exact dropsWhenFull_interruptRecovering cause s o m full
    · exact dropsWhenFull_interruptActive cause s o m full
  · exact dropsWhenFull_interruptWinddown cause s o m full
  · exact dropsWhenFull_writeInterruption cause s o m full
  · exact dropsWhenFull_writeInterruption cause s o m full
  · next active windDown idle done =>
    split at transmits <;> simp_all

theorem abandon_rcu (s : State) : s.abandon.rcu = s.rcu := by
  unfold State.abandon
  split <;> rfl

@[simp] theorem State.railsDisabled_rcu (s : State) : s.railsDisabled.rcu = s.rcu := rfl
@[simp] theorem State.stopHeating_rcu (s : State) : s.stopHeating.rcu = s.rcu := by
  simp only [State.stopHeating, State.mapHeaters_rcu]

theorem removePower_rcu (s : State) : s.removePower.rcu = s.rcu := by
  simp only [State.removePower, State.releaseAll_rcu, State.clearQueue_rcu, abandon_rcu, State.railsDisabled_rcu,
    State.stopHeating_rcu, State.mapPower_rcu]

theorem abandonRun_intCount (s : State) : s.abandonRun.rcu.intCount = s.rcu.intCount + 1 := by
  show s.removePower.rcu.intCount + 1 = _
  rw [removePower_rcu]

theorem stopOrRecover_intCount (s : State) (cause : IntCause) :
    (s.stopOrRecover cause).rcu.intCount = s.rcu.intCount := by
  unfold State.stopOrRecover
  split <;> rfl

/-- An interruption taken in ACTIVE outside RECOVERING is counted, whatever the list holds (R44). -/
theorem interrupt_intCount_of_active (s : State) (cause : IntCause) (active : s.rcu.state = .active)
    (sub : s.rcu.sub ≠ some .recovering) : (s.interrupt cause).rcu.intCount = s.rcu.intCount + 1 := by
  have acts : s.interrupt cause = s.interruptActive cause := by
    unfold State.interrupt
    rw [active]
    exact if_neg sub
  rw [acts, interruptActive_eq, stopOrRecover_intCount, State.writeInterruption, State.writeEntry_rcu,
    abandonRun_intCount]

/-! ### The failed mask and the flags -/

/-- Bit `k` of a sum of distinct bits is the bit put there. -/
theorem bitOf_sum_bits (n : Nat) (p : Fin n → Bool) (k : Fin n) :
    bitOf ((List.finRange n).map (fun i => bit (p i) i.val)).sum k.val = p k := by
  induction n with
  | zero => exact k.elim0
  | succ n ih =>
    have halves : ((List.finRange (n + 1)).map (fun i => bit (p i) i.val)).sum =
        bit (p 0) 0 + 2 * ((List.finRange n).map (fun i => bit (p i.succ) i.val)).sum := by
      have double : ∀ i : Fin n, bit (p i.succ) i.succ.val = 2 * bit (p i.succ) i.val := fun i => by
        cases p i.succ <;> simp [bit, pow_succ, mul_comm]
      simp only [List.finRange_succ, List.map_cons, List.map_map, List.sum_cons, Function.comp_def, double,
        List.sum_map_mul_left, Fin.val_zero]
    rw [halves]
    cases k using Fin.cases with
    | zero => cases h : p 0 <;> simp [bitOf, bit]
    | succ j =>
      have low : (bit (p 0) 0 + 2 * ((List.finRange n).map (fun i => bit (p i.succ) i.val)).sum) / 2 =
          ((List.finRange n).map (fun i => bit (p i.succ) i.val)).sum := by
        cases p 0 <;> simp [bit]; omega
      unfold bitOf at ih ⊢
      rw [Fin.val_succ, pow_succ', ← Nat.div_div_eq_div_mul, low]
      exact ih (fun i => p i.succ) j

/-- Bit `i` of a mask says whether socket `i` is in the state (R147, R182). -/
theorem bitOf_maskOf (s : State) (st : SocketState) (i : Socket) :
    bitOf (s.maskOf st) i.val = (s.socketState i == st) := bitOf_sum_bits 16 (fun i => s.socketState i == st) i

/-- The overflow flag is bit 6 of the flags byte (R168, R182). -/
theorem bitOf_flagsByte_overflow (s : State) : bitOf s.flagsByte 6 = s.acu.overflow := by
  have bits : ∀ hold full head reply conflict warn severe shed : Bool,
      bitOf (bit hold 7 + bit full 6 + bit head 5 + bit reply 4 + bit conflict 3 + bit warn 2 + bit severe 1 + bit shed 0) 6 =
        full := by decide
  exact bits _ _ _ _ _ _ _ _

end Sys2Proof.Machine
end

section
/-! SUPPORT. The overflow flag stays set (R156): said once for each shared operation, then for every row that does not clear
and for the clock. Each lemma takes a state with the flag set. -/

namespace Sys2Proof.Machine

section
variable {s : State}

theorem overflow_ite {c : Prop} [Decidable c] {t u : State} (ht : t.acu.overflow = true) (hu : u.acu.overflow = true) :
    (if c then t else u).acu.overflow = true := by
  split
  · exact ht
  · exact hu

theorem overflow_of_acu_eq {t : State} (e : t.acu = s.acu) (h : s.acu.overflow = true) : t.acu.overflow = true := by
  rw [e]
  exact h

theorem overflow_foldl {α : Type} {f : State → α → State}
    (hf : ∀ t a, t.acu.overflow = true → (f t a).acu.overflow = true) (l : List α) (h : s.acu.overflow = true) :
    (l.foldl f s).acu.overflow = true := by
  induction l generalizing s with
  | nil => exact h
  | cons a l ih => exact ih (hf s a h)

/-- An entry stored leaves the flag, and an entry dropped sets it (R155, R156). -/
theorem overflow_writeEntry (e : Entry) (h : s.acu.overflow = true) : (s.writeEntry e).acu.overflow = true := by
  unfold State.writeEntry
  exact overflow_ite h rfl

/-! ### Heat and the scanner: the ACU stays as it is -/

@[simp] theorem State.releaseAllowance_acu (s : State) (i : Socket) : (s.releaseAllowance i).acu = s.acu := rfl
@[simp] theorem State.nextScan_acu (s : State) : s.nextScan.acu = s.acu := rfl
@[simp] theorem State.judgeRound_overflow (s : State) (hold severe : Bool) :
    (s.judgeRound hold severe).acu.overflow = s.acu.overflow := State.mapRecords_overflow s _
@[simp] theorem State.enterDone_acu (s : State) (cause : Option EndCause) : (s.enterDone cause).acu = s.acu := rfl
@[simp] theorem State.enterBringup_acu (s : State) (hold : Bool) : (s.enterBringup hold).acu = s.acu := rfl

theorem startPeriod_acu (s : State) (i : Socket) : (s.startPeriod i).acu = s.acu := by
  unfold State.startPeriod
  dsimp only
  split
  · rfl
  · split <;> rfl

theorem regulate_acu (s : State) (i : Socket) : (s.regulate i).acu = s.acu := by
  unfold State.regulate
  split
  · split
    · rfl
    · exact forceOff_records s i
  · rfl

theorem tokenCheck_acu (s : State) : s.tokenCheck.acu = s.acu := by
  unfold State.tokenCheck
  dsimp only
  split_ifs <;> rfl

theorem setAnchor_acu (s : State) : s.setAnchor.acu = s.acu := by
  unfold State.setAnchor
  rw [startPeriod_acu]
  split
  · simp only [State.releaseToken, State.release_acu, State.mapHeaters_acu]
  · simp only [State.mapHeaters_acu]

theorem requestScan_acu (s : State) (k : ScanKind) : (s.requestScan k).acu = s.acu := by
  unfold State.requestScan
  split <;> rfl

theorem stopHeating_acu (s : State) : s.stopHeating.acu = s.acu := by
  simp only [State.stopHeating, State.mapHeaters_acu]

theorem windStep1_acu (s : State) : s.windStep1.acu = s.acu := by
  simp only [State.windStep1, stopHeating_acu, State.release_acu]

theorem stopSchedule_acu (s : State) : s.stopSchedule.acu = s.acu := by
  simp only [State.stopSchedule, State.mapHeaters_acu]

/-- On-times are regulated and posted to the records (R99). -/
theorem overflow_regulateAll (h : s.acu.overflow = true) : s.regulateAll.acu.overflow = true := by
  unfold State.regulateAll
  rw [State.mapRecords_overflow]
  exact overflow_foldl (fun t i => overflow_of_acu_eq (regulate_acu t i)) _ h

/-! ### The pattern engine -/

theorem overflow_abandon (h : s.acu.overflow = true) : s.abandon.acu.overflow = true := by
  unfold State.abandon
  exact overflow_ite h h

@[simp] theorem State.rejoin_overflow (s : State) : s.rejoin.acu.overflow = s.acu.overflow :=
  State.mapRecords_overflow s _

@[simp] theorem State.beginPass_overflow (s : State) : s.beginPass.acu.overflow = s.acu.overflow := by
  simp only [State.beginPass, State.rejoin_overflow]

theorem overflow_startPattern (n : Nat) (h : s.acu.overflow = true) : (s.startPattern n).acu.overflow = true := by
  unfold State.startPattern
  split
  · exact h
  · dsimp only
    split
    · rw [State.rejoin_overflow]
      exact h
    · rw [State.beginPass_overflow]
      exact h

theorem overflow_requestStart (n : Nat) (h : s.acu.overflow = true) : (s.requestStart n).acu.overflow = true := by
  unfold State.requestStart
  exact overflow_ite h (overflow_startPattern n (overflow_abandon h))

theorem overflow_raiseFirst (h : s.acu.overflow = true) : s.raiseFirst.acu.overflow = true := by
  unfold State.raiseFirst
  split <;> exact h

/-! ### Sockets: drops, failures and trips -/

theorem overflow_dropSocket (i : Socket) (h : s.acu.overflow = true) : (s.dropSocket i).acu.overflow = true := by
  rw [dropSocket_acu]
  exact h

theorem overflow_failSocket (i : Socket) (kind : FailKind) (finding : Finding) (h : s.acu.overflow = true) :
    (s.failSocket i kind finding).acu.overflow = true := by
  have written : (s.writeSocketEntry i finding true).acu.overflow = true := overflow_writeEntry _ h
  rw [failSocket_eq, ((ledgerBlind_failed i kind).ledger _).2.1]
  exact written

theorem overflow_trip (i : Socket) (detail : Nat) (h : s.acu.overflow = true) :
    (s.trip i detail).acu.overflow = true := by
  unfold State.trip
  refine overflow_ite (overflow_ite ?_ (overflow_failSocket i _ _ h)) h
  rw [State.modPower_acu]
  exact overflow_dropSocket i (overflow_writeEntry _ h)

theorem overflow_superviseOpen (i : Socket) (c : Half) (h : s.acu.overflow = true) :
    (s.superviseOpen i c).acu.overflow = true := by
  unfold State.superviseOpen
  split
  · split
    · unfold State.checkOpen
      exact overflow_ite h (overflow_ite h (overflow_failSocket i _ _ h))
    · exact h
  · unfold State.watchOpen
    exact overflow_ite h (overflow_ite h (overflow_failSocket i _ _ h))
  · exact h

theorem overflow_superviseCurrent (i : Socket) (c : Half) (h : s.acu.overflow = true) :
    (s.superviseCurrent i c).acu.overflow = true := by
  unfold State.superviseCurrent
  refine overflow_ite (overflow_ite (overflow_ite ?_ (overflow_trip i _ h)) ?_) h
  · exact overflow_superviseOpen (s := s.modPower i _) i c h
  · exact overflow_superviseOpen (s := s.modPower i _) i c h

/-! ### Rails -/

theorem overflow_takeRetarget (target : Nat) (rails : List Rail) (h : s.acu.overflow = true) :
    (s.takeRetarget target rails).acu.overflow = true := by
  induction rails with
  | nil => exact h
  | cons r rest ih =>
    unfold State.takeRetarget
    exact overflow_ite ih h

theorem overflow_startRetarget (target : Nat) (h : s.acu.overflow = true) :
    (s.startRetarget target).acu.overflow = true := by
  unfold State.startRetarget
  exact overflow_takeRetarget target _ h

theorem overflow_afterRetargeted (r : Rail) (h : s.acu.overflow = true) :
    (s.afterRetargeted r).acu.overflow = true := by
  unfold State.afterRetargeted
  split
  · exact overflow_ite (overflow_takeRetarget _ _ h) h
  · exact h

theorem overflow_finishWinddown (h : s.acu.overflow = true) : s.finishWinddown.acu.overflow = true := by
  unfold State.finishWinddown
  exact overflow_ite h h

theorem overflow_takeFalling (rails : List Rail) (h : s.acu.overflow = true) :
    (s.takeFalling rails).acu.overflow = true := by
  induction rails with
  | nil => exact overflow_finishWinddown h
  | cons r rest ih =>
    unfold State.takeFalling
    exact overflow_ite ih h

theorem overflow_railDown (r : Rail) (h : s.acu.overflow = true) : (s.railDown r).acu.overflow = true := by
  unfold State.railDown
  exact overflow_takeFalling _ (overflow_ite h h)

/-! ### Interruptions, the winddown and MUTED -/

theorem overflow_interrupt (cause : IntCause) (h : s.acu.overflow = true) :
    (s.interrupt cause).acu.overflow = true := by
  have written : ∀ t : State, t.acu.overflow = true → (t.writeInterruption cause).acu.overflow = true :=
    fun _ => overflow_writeEntry _
  unfold State.interrupt
  split
  · refine overflow_ite (written s h) ?_
    rw [interruptActive_eq, ((ledgerBlind_stopOrRecover cause).ledger _).2.1]
    exact written _ ((ledgerBlind_abandonRun.ledger s).2.1.trans h)
  · rw [interruptWinddown_eq, State.enterDone_acu]
    exact written _ ((ledgerBlind_abandonWinddown.ledger s).2.1.trans h)
  · exact written s h
  · exact written s h
  · exact h

theorem overflow_windSocket (i : Socket) (h : s.acu.overflow = true) : (s.windSocket i).acu.overflow = true := by
  unfold State.windSocket
  refine overflow_ite ?_ (overflow_ite h h)
  rw [State.modRecord_overflow, State.releaseAllowance_acu]
  exact overflow_dropSocket i h

theorem overflow_powerDown (h : s.acu.overflow = true) : s.powerDown.acu.overflow = true := by
  have wound := overflow_foldl (fun _ i => overflow_windSocket i) allSockets
    (overflow_of_acu_eq (windStep1_acu { s with rcu := { s.rcu with poweringDown := true } }) h)
  unfold State.powerDown
  dsimp only
  generalize allSockets.foldl State.windSocket _ = t at wound ⊢
  exact overflow_takeFalling _ wound

theorem overflow_stopComplete (h : s.acu.overflow = true) : s.stopComplete.acu.overflow = true := by
  unfold State.stopComplete
  split
  · split
    · unfold State.computeDelta
      exact overflow_ite (overflow_ite h (overflow_startRetarget _ h)) h
    · exact h
  · exact overflow_ite h (overflow_powerDown h)
  · exact h

theorem overflow_requestFinish (h : s.acu.overflow = true) : s.requestFinish.acu.overflow = true := by
  unfold State.requestFinish
  split
  · exact h
  · exact overflow_stopComplete (s := s.stopEngine) h
  · exact h
  · exact overflow_stopComplete h

theorem overflow_abortRun (h : s.acu.overflow = true) : s.abortRun.acu.overflow = true := by
  have abandoned := overflow_abandon h
  unfold State.abortRun
  generalize s.abandon = t at abandoned ⊢
  exact overflow_powerDown abandoned

theorem overflow_enterMuted (cause : MuteCause) (h : s.acu.overflow = true) :
    (s.enterMuted cause).acu.overflow = true := by
  have abandoned := overflow_abandon h
  unfold State.enterMuted
  generalize s.abandon = t at abandoned ⊢
  dsimp only
  rw [stopSchedule_acu]
  exact abandoned

theorem overflow_clash (h : s.acu.overflow = true) : s.clash.acu.overflow = true := by
  have interrupted := overflow_enterMuted .clash (overflow_interrupt .unheard h)
  unfold State.clash
  split
  · exact overflow_enterMuted _ h
  · exact overflow_enterMuted _ h
  · exact overflow_ite (overflow_enterMuted _ h) interrupted
  · exact interrupted
  · exact h

/-! ### The mark -/

theorem overflow_handOn (n : Need) (h : s.acu.overflow = true) : (s.handOn n).acu.overflow = true := by
  unfold State.handOn
  split
  · unfold State.startBringup
    exact overflow_ite h h
  · exact overflow_ite h h
  · split
    · exact overflow_startRetarget _ h
    · exact h
  · exact overflow_of_acu_eq (serveHead_same _).2.1 h

theorem overflow_budgetMark (f : MarkFacts) (h : s.acu.overflow = true) : (s.budgetMark f).acu.overflow = true := by
  have predicted : (s.predict (s.granted f.round)).acu.overflow = true := h
  unfold State.budgetMark
  dsimp only
  generalize s.predict (s.granted f.round) = t at predicted ⊢
  refine overflow_ite ?_ predicted
  unfold State.applyGrant
  split
  · exact predicted
  · exact overflow_ite (overflow_handOn _ predicted) predicted

theorem overflow_beginRound (h : s.acu.overflow = true) : s.beginRound.acu.overflow = true := by
  unfold State.beginRound
  exact overflow_of_acu_eq (requestScan_acu _ _) h

theorem overflow_biuMark (slip : Nat) (h : s.acu.overflow = true) : (s.biuMark slip).acu.overflow = true := by
  have counted : s.updatePeers.countUnheard.countMismatch.acu.overflow = true := by
    unfold State.countMismatch State.countUnheard
    dsimp only
    split <;> exact h
  unfold State.biuMark
  exact overflow_ite (t := s.updatePeers) h counted

theorem overflow_joinMark (h : s.acu.overflow = true) : s.joinMark.acu.overflow = true := by
  unfold State.joinMark
  exact overflow_ite (overflow_ite h h) h

theorem overflow_retryMarks (h : s.acu.overflow = true) : s.retryMarks.acu.overflow = true := by
  unfold State.retryMarks
  refine overflow_ite (overflow_foldl (fun t i ht => ?_) allSockets h) h
  unfold State.retryMark
  exact overflow_ite ht ht

theorem overflow_placeBringup (wants : SocketState → Bool) (h : s.acu.overflow = true) :
    (s.placeBringup wants).acu.overflow = true := by
  unfold State.placeBringup
  refine overflow_foldl (fun t i ht => ?_) allSockets h
  exact overflow_ite ht ht

theorem overflow_startRun (hold : Bool) (h : s.acu.overflow = true) : (s.startRun hold).acu.overflow = true := by
  unfold State.startRun
  rw [State.enterBringup_acu]
  refine overflow_placeBringup _ ?_
  rw [State.mapRecords_overflow]
  exact h

theorem overflow_enterRunning (reentry : Nat) (h : s.acu.overflow = true) :
    (s.enterRunning reentry).acu.overflow = true := by
  unfold State.enterRunning
  exact overflow_requestStart reentry h

theorem overflow_decidePhase (h : s.acu.overflow = true) : s.decidePhase.acu.overflow = true := by
  unfold State.decidePhase
  refine overflow_ite h (overflow_ite ?_ ?_)
  · unfold State.enterTransition
    exact overflow_requestFinish h
  · exact overflow_requestFinish (s := s.enterWinddown .complete) h

theorem overflow_arrive (target : Nat) (hold : Bool) (h : s.acu.overflow = true) :
    (s.arrive target hold).acu.overflow = true := by
  unfold State.arrive
  refine overflow_ite ?_ (overflow_enterRunning 0 ?_)
  · simpa [State.enterHeld] using h
  · simpa using h

theorem overflow_recoveryEnd (hold : Bool) (h : s.acu.overflow = true) : (s.recoveryEnd hold).acu.overflow = true := by
  unfold State.recoveryEnd
  rw [State.enterBringup_acu]
  exact overflow_placeBringup _ h

/-- Run control at a mark, in each state and sub-state. -/
theorem overflow_runMark (hold clash : Bool) (h : s.acu.overflow = true) :
    (s.runMark hold clash).acu.overflow = true := by
  unfold State.runMark
  split
  · exact overflow_ite (overflow_startRun hold h) h
  · split
    · unfold State.bringUpMark
      exact overflow_ite h (overflow_ite (overflow_enterRunning 0 h) h)
    · unfold State.runningMark
      exact overflow_ite (overflow_requestFinish (s := s.enterHeld .running) h) (overflow_decidePhase h)
    · unfold State.transitionMark
      split
      · exact overflow_ite (overflow_arrive _ hold h) h
      · exact h
    · unfold State.heldMark
      exact overflow_ite h (overflow_ite (overflow_enterRunning _ h) h)
    · unfold State.recoveringMark
      exact overflow_ite (overflow_recoveryEnd (s := s.countRecovery) hold h) h
    · exact h
  · exact h

theorem overflow_heatMark (before : Option SubState) (h : s.acu.overflow = true) :
    (s.heatMark before).acu.overflow = true := by
  have checked : s.dropIneligible.tokenCheck.acu.overflow = true := overflow_of_acu_eq (tokenCheck_acu _) h
  unfold State.heatMark
  exact overflow_ite (overflow_ite (overflow_of_acu_eq (setAnchor_acu _) checked) checked) h

theorem overflow_blocksMark (f : MarkFacts) (hold : Bool) (h : s.acu.overflow = true) :
    (s.blocksMark f hold).acu.overflow = true := by
  have joined := overflow_joinMark (overflow_retryMarks (overflow_budgetMark f h))
  unfold State.blocksMark
  dsimp only
  generalize (s.budgetMark f).retryMarks.joinMark = t at joined ⊢
  have heated := overflow_heatMark t.rcu.sub (overflow_runMark hold t.clashCount joined)
  generalize (t.runMark hold t.clashCount).heatMark t.rcu.sub = u at heated ⊢
  exact overflow_beginRound (s := u.openGates) heated

theorem overflow_markSignals (unheard : Bool) (h : s.acu.overflow = true) :
    (s.markSignals unheard).acu.overflow = true := by
  have signalled : (if unheard then s.interrupt .unheard else s).acu.overflow = true :=
    overflow_ite (overflow_interrupt _ h) h
  unfold State.markSignals
  exact overflow_ite (overflow_clash signalled) signalled

theorem overflow_laterMark (slip : Nat) (h : s.acu.overflow = true) : (s.laterMark slip).acu.overflow = true := by
  have judged := overflow_biuMark slip
    ((s.judgeRound_overflow s.rackHold (driftSevereOf slip s.prof.period)).trans h)
  unfold State.laterMark
  dsimp only
  split
  · exact overflow_enterMuted _ (overflow_beginRound judged)
  · have signalled := overflow_markSignals s.unheardSignal (overflow_blocksMark s.markFacts s.rackHold judged)
    unfold State.loseReply
    exact overflow_ite signalled signalled

theorem overflow_acceptMark (slip : Nat) (h : s.acu.overflow = true) : (s.acceptMark slip).acu.overflow = true := by
  unfold State.acceptMark State.syncMark
  exact overflow_ite (overflow_laterMark slip h) (overflow_beginRound h)

/-! ### Commands -/

/-- A judged command keeps the flag where its effect does. -/
theorem overflow_judged (code : BitVec 4) (inState valid : Bool) {effect : State × CmdResult}
    (he : effect.1.acu.overflow = true) (h : s.acu.overflow = true) :
    (s.judged code inState valid effect).acu.overflow = true := by
  unfold State.judged
  exact overflow_ite h (overflow_ite h (overflow_ite h he))

theorem overflow_excludeSocket (i : Socket) (h : s.acu.overflow = true) :
    (s.excludeSocket i).1.acu.overflow = true := by
  have dropped := overflow_dropSocket i h
  unfold State.excludeSocket
  split
  · exact h
  · exact h
  · exact h
  · exact h
  · exact dropped
  · exact dropped
  · exact dropped
  · exact dropped

theorem overflow_includeSocket (i : Socket) (h : s.acu.overflow = true) :
    (s.includeSocket i).1.acu.overflow = true := by
  unfold State.includeSocket
  split <;> exact h

/-- TAKE removes the head, and leaves the flag (R156, R158). -/
theorem overflow_takeHead (h : s.acu.overflow = true) : s.takeHead.1.acu.overflow = true := by
  unfold State.takeHead
  split <;> exact h

theorem overflow_refuseForm (code : Byte) (h : s.acu.overflow = true) : (s.refuseForm code).acu.overflow = true := by
  unfold State.refuseForm
  exact overflow_ite h h

theorem overflow_takeAbort (h : s.acu.overflow = true) : s.takeAbort.acu.overflow = true := by
  have aborted := overflow_abortRun h
  unfold State.takeAbort
  generalize s.abortRun = t at aborted ⊢
  exact overflow_judged 6 _ _ aborted h

theorem overflow_takePlan (args : List Byte) (h : s.acu.overflow = true) : (s.takePlan args).acu.overflow = true := by
  refine overflow_judged 1 _ _ ?_ h
  unfold State.storePlan
  split <;> exact h

theorem overflow_takeAdvance (q : Byte) (h : s.acu.overflow = true) : (s.takeAdvance q).acu.overflow = true := by
  refine overflow_judged 5 _ _ ?_ h
  split <;> exact h

/-- A command of good form but CLEAR. -/
theorem overflow_dispatchCommand (code : Nat) (args : List Byte) (good : 1 ≤ code ∧ code ≤ 10)
    (h : s.acu.overflow = true) : (s.dispatchCommand code args).acu.overflow = true := by
  obtain ⟨one_le, le_ten⟩ := good
  match code, one_le, le_ten with
  | 1, _, _ => exact overflow_takePlan args h
  | 2, _, _ => exact overflow_judged 2 _ _ h h
  | 3, _, _ => exact overflow_judged 3 _ _ h h
  | 4, _, _ => exact overflow_judged 4 _ _ h h
  | 5, _, _ => exact overflow_takeAdvance _ h
  | 6, _, _ => exact overflow_takeAbort h
  | 7, _, _ => exact overflow_judged 7 _ _ (overflow_excludeSocket _ h) h
  | 8, _, _ => exact overflow_judged 8 _ _ (overflow_includeSocket _ h) h
  | 9, _, _ => exact overflow_judged 9 _ _ h h
  | 10, _, _ => exact overflow_judged 10 _ _ (overflow_takeHead h) h

/-! ### Frames -/

theorem overflow_buildFrame (h : s.acu.overflow = true) : s.buildFrame.acu.overflow = true := by
  have settled : s.settleTransition.acu.overflow = true := by
    unfold State.settleTransition
    split
    · exact overflow_ite (overflow_startRetarget (s := s.withdraw .transition) _ h) h
    · exact h
  unfold State.buildFrame
  exact overflow_ite settled h

theorem overflow_stopFrame (h : s.acu.overflow = true) : s.stopFrame.acu.overflow = true := by
  unfold State.stopFrame
  split <;> exact h

theorem overflow_endFrame (h : s.acu.overflow = true) : s.endFrame.acu.overflow = true := by
  unfold State.endFrame
  refine overflow_ite h ?_
  split
  · unfold State.hearOwn
    split <;> exact h
  · exact h
  · exact h

/-- A command frame that does not carry CLEAR. -/
theorem overflow_hearCommand (slot : Nat) (bytes : List Byte)
    (clear : (parseCommand slot bytes).any (fun f => f.code == 11) = false) (h : s.acu.overflow = true) :
    (s.hearCommand slot bytes).acu.overflow = true := by
  unfold State.hearCommand
  split
  · exact h
  · next f parsed =>
    refine overflow_ite ?_ h
    unfold State.takeCommand
    split
    · next form =>
      simp only [formOk, Bool.and_eq_true, decide_eq_true_eq] at form
      obtain ⟨⟨⟨one_le, le_eleven⟩, -⟩, -⟩ := form
      have other : f.code.toNat ≠ 11 := fun e => by simp [parsed, BitVec.eq_of_toNat_eq (y := 11) e] at clear
      exact overflow_dispatchCommand (s := s.storeCommand slot f.round) _ _ ⟨one_le, by omega⟩ h
    · exact overflow_refuseForm (s := s.storeCommand slot f.round) _ h

theorem overflow_hearFrame (slot : Slot) (bytes : List Byte)
    (clear : (parseCommand slot.val bytes).any (fun f => f.code == 11) = false) (h : s.acu.overflow = true) :
    (s.hearFrame slot bytes).acu.overflow = true := by
  unfold State.hearFrame
  refine overflow_ite h (overflow_ite h (overflow_ite h (overflow_ite h (overflow_ite h ?_))))
  split
  · exact overflow_hearCommand _ _ clear h
  · unfold State.hearStatus
    split <;> exact h

/-! ### Readings and passes -/

/-- A reading handed over keeps the flag where its user does. -/
theorem overflow_handOver (input : ScanInput) {user : State → State}
    (hu : s.handed.acu.overflow = true → (user s.handed).acu.overflow = true) (h : s.acu.overflow = true) :
    (s.handOver input user).acu.overflow = true := by
  unfold State.handOver
  exact overflow_ite (hu h) h

theorem overflow_judgeRail (r : Rail) (reading : Half) (h : s.acu.overflow = true) :
    (s.judgeRail r reading).acu.overflow = true := by
  unfold State.judgeRail
  dsimp only
  split
  · exact h
  · refine overflow_ite ?_ h
    unfold State.afterRamped
    split <;> exact h
  · unfold State.superviseRail
    exact overflow_ite h (overflow_ite h (overflow_interrupt _ h))
  · exact overflow_ite (overflow_afterRetargeted (s := s.railIsUp r) r h) h
  · exact overflow_ite (overflow_railDown r h) h

theorem overflow_judgeBulk (voltage : Half) (h : s.acu.overflow = true) :
    (s.judgeBulk voltage).acu.overflow = true := by
  have low : s.bulkGoesLow.acu.overflow = true := by
    unfold State.bulkGoesLow
    exact overflow_ite h (overflow_interrupt _ h)
  have good : s.bulkGoesGood.acu.overflow = true := by
    unfold State.bulkGoesGood
    exact overflow_ite h h
  unfold State.judgeBulk
  exact overflow_ite (overflow_ite h (overflow_ite h low)) (overflow_ite (overflow_ite h good) h)

theorem overflow_judgeBoard (current : Half) (h : s.acu.overflow = true) :
    (s.judgeBoard current).acu.overflow = true := by
  unfold State.judgeBoard
  exact overflow_ite h (overflow_ite h (overflow_ite h (overflow_interrupt _ h)))

theorem overflow_judgeSensor (i : Socket) (code : Half) (band : Band) (h : s.acu.overflow = true) :
    (s.judgeSensor i code band).acu.overflow = true := by
  unfold State.judgeSensor
  exact overflow_ite h (overflow_ite (overflow_writeEntry _ h) h)

theorem overflow_judgeTrip (i : Socket) (reading : Option Int) (band : Band) (h : s.acu.overflow = true) :
    (s.judgeTrip i reading band).acu.overflow = true := by
  unfold State.judgeTrip
  exact overflow_ite (overflow_ite (overflow_of_acu_eq (forceOff_records _ i) h) (overflow_failSocket i _ _ h)) h

theorem overflow_judgeTemperature (i : Socket) (code : Half) (h : s.acu.overflow = true) :
    (s.judgeTemperature i code).acu.overflow = true := by
  have posted : (s.postBand i (readingOf code) (bandOf s.window s.prof.tripMargin (readingOf code))).acu.overflow = true := by
    unfold State.postBand
    refine overflow_ite ?_ ?_ <;> simpa using h
  unfold State.judgeTemperature
  dsimp only
  generalize s.postBand i _ _ = t at posted ⊢
  have noted : (t.noteWarm i (bandOf s.window s.prof.tripMargin (readingOf code))).acu.overflow = true := by
    unfold State.noteWarm
    exact overflow_ite posted posted
  exact overflow_judgeTrip i _ _ (overflow_judgeSensor i code _ noted)

theorem overflow_readTemperature (i : Socket) (code : Half) (h : s.acu.overflow = true) :
    (s.readTemperature i code).acu.overflow = true := by
  unfold State.readTemperature
  exact overflow_handOver _ (fun handed => overflow_judgeTemperature i code handed) h

theorem overflow_completeScan (h : s.acu.overflow = true) : s.completeScan.acu.overflow = true := by
  unfold State.completeScan
  refine overflow_ite ?_ h
  rw [State.nextScan_acu]
  exact overflow_regulateAll h

theorem overflow_checkSocket (i : Socket) (h : s.acu.overflow = true) : (s.checkSocket i).acu.overflow = true := by
  unfold State.checkSocket State.judgeMismatch
  refine overflow_ite (overflow_ite h (overflow_ite ?_ (overflow_ite h ?_))) h
  · exact overflow_failSocket (s := s.modRecord i SocketRecord.mismatched) i _ _ h
  · exact overflow_writeEntry (s := s.modRecord i SocketRecord.mismatched) _ h

theorem overflow_endPass (h : s.acu.overflow = true) : s.endPass.acu.overflow = true := by
  have posted : s.postResults.acu.overflow = true := by
    unfold State.postResults
    exact overflow_ite (overflow_foldl (fun _ i => overflow_checkSocket i) allSockets h) h
  unfold State.endPass
  refine overflow_ite (overflow_ite ?_ ?_) h
  · exact overflow_stopComplete (s := s.postResults.stopEngine) posted
  · exact overflow_raiseFirst ((State.beginPass_overflow _).trans posted)

/-! ### The clock -/

theorem dutTick_acu (s : State) : s.dutTick.1.acu = s.acu := by
  unfold State.dutTick
  dsimp only
  split_ifs
  · rfl
  · rfl
  · split <;> rfl
  · rfl

theorem countTimers_acu (s : State) : s.countTimers.acu = s.acu := by
  simp only [State.countTimers, State.mapHeaters_acu, State.mapRails_acu, State.mapPower_acu]

theorem restTimers_acu (s : State) : s.restTimers.acu = s.acu := by
  simp only [State.restTimers, State.mapHeaters_acu, State.mapRails_acu, State.mapPower_acu]

theorem passTime_acu (s : State) : s.passTime.acu = s.acu := by
  simp only [State.passTime, State.queueUp_acu, State.countPorts, State.countBiu, countTimers_acu, dutTick_acu]

/-- 25 ns of the clock, and what falls due, leave the ACU as it is. -/
theorem tick_acu (s : State) : s.tick.acu = s.acu := by
  unfold State.tick
  split
  · rfl
  · split_ifs
    · rfl
    · rfl
    · exact passTime_acu s
    · rw [State.queueUp_acu, restTimers_acu]

end

/-! ### Every row and every step -/

theorem exec_overflow {s t : State} (c : Instr) (clear : c.mayClear = false) (h : s.acu.overflow = true)
    (next : exec c s = .next t) : t.acu.overflow = true := by
  cases c with
  | pinReset | profileLoadEnd | cmdClear => cases clear
  | resetRelease slot rate => cases next; exact overflow_ite h h
  | roundTimerExpiry => cases next; exact overflow_ite (overflow_acceptMark 0 h) h
  | mark => cases next; exact overflow_ite h (overflow_ite h (overflow_acceptMark _ h))
  | joinWaitEnd => cases next; exact overflow_ite h h
  | recoveringEnd =>
    cases next
    exact overflow_ite (overflow_of_acu_eq (setAnchor_acu _) (overflow_recoveryEnd s.rackHold h)) h
  | retryWaitEnd i => cases next; exact overflow_ite h h
  | halfRoundScan => cases next; exact overflow_ite (overflow_of_acu_eq (requestScan_acu _ _) h) h
  | statusFrameBuild => cases next; exact overflow_buildFrame h
  | readbackMismatch => cases next; exact overflow_stopFrame h
  | statusFrameEnd => cases next; exact overflow_endFrame h
  | frameReceived slot bytes => cases next; exact overflow_hearFrame slot bytes clear h
  | frameBroken slot => cases next; exact overflow_ite h h
  | cmdPlan args => cases next; exact overflow_takePlan args h
  | cmdStart => cases next; exact overflow_judged 2 _ _ h h
  | cmdHold => cases next; exact overflow_judged 3 _ _ h h
  | cmdResume => cases next; exact overflow_judged 4 _ _ h h
  | cmdAdvance q => cases next; exact overflow_takeAdvance q h
  | cmdAbort => cases next; exact overflow_takeAbort h
  | cmdExclude b => cases next; exact overflow_judged 7 _ _ (overflow_excludeSocket _ h) h
  | cmdInclude b => cases next; exact overflow_judged 8 _ _ (overflow_includeSocket _ h) h
  | cmdRead b => cases next; exact overflow_judged 9 _ _ h h
  | cmdTake => cases next; exact overflow_judged 10 _ _ (overflow_takeHead h) h
  | invalidCommand code => cases next; exact overflow_refuseForm code h
  | socketCurrentReading i current =>
    cases next
    exact overflow_handOver _ (overflow_superviseCurrent (s := s.handed.modRecord i _) i current) h
  | instantTrip i current => cases next; exact overflow_ite (overflow_trip i _ h) h
  | socketSettleEnd i => cases next; exact overflow_ite h h
  | railReading r reading => cases next; exact overflow_handOver _ (overflow_judgeRail r reading) h
  | railSettleTimeout r => cases next; exact overflow_ite (overflow_interrupt _ h) h
  | railFallTimeout r => cases next; exact overflow_ite (overflow_railDown r h) h
  | bulkReading voltage => cases next; exact overflow_handOver _ (overflow_judgeBulk voltage) h
  | boardCurrentReading current => cases next; exact overflow_handOver _ (overflow_judgeBoard current) h
  | temperatureReading i code => cases next; exact overflow_readTemperature i code h
  | scanCompletion => cases next; exact overflow_completeScan h
  | heaterPeriodStart i =>
    cases next
    exact overflow_ite h (overflow_of_acu_eq ((startPeriod_acu _ i).trans (endHeating_acu s i)) h)
  | heaterOnEnd i => cases next; exact overflow_ite (overflow_of_acu_eq (endHeating_acu s i) h) h
  | passEnd => cases next; exact overflow_endPass h
  | doorChange asserted => cases next; exact h
  | framingError slot => cases next; exact overflow_ite h h

/-- A step on an empty queue is the clock's; otherwise it is the front command's row. -/
theorem step_overflow {s t : State} (h : s.acu.overflow = true) (clear : ∀ c ∈ s.pending.head?, c.mayClear = false)
    (next : step s = .next t) : t.acu.overflow = true := by
  unfold step at next
  split at next
  · cases next
    exact overflow_of_acu_eq (tick_acu s) h
  · next c rest queue => exact exec_overflow (s := { s with pending := rest }) c (clear c (by rw [queue]; rfl)) h next

end Sys2Proof.Machine
end

section
/-! SUPPORT. The entry stored at the tail, and the entry dropped for want of room (R155, R156), put together. -/

namespace Sys2Proof.Machine

/-- A failure with its entry dropped: the socket is FAILED with its failure part, in the failed mask and on FAIL (R156). -/
theorem failSocket_failed (s : State) (i : Socket) (kind : FailKind) (finding : Finding) :
    let t := s.failSocket i kind finding
    t.socketState i = .failed ∧
    t.acu.records[i].failure =
      some { kind := kind, phase := s.rcu.phase, credit := s.acu.records[i].creditAt s.rcu.phase } ∧
    t.failLine = true ∧ bitOf (t.maskOf .failed) i.val = true := by
  obtain ⟨-, -, line, record, -⟩ := failSocket_fails s i kind finding
  have state : (s.failSocket i kind finding).socketState i = .failed := by rw [State.socketState, record]
  refine ⟨state, by rw [record], line, ?_⟩
  rw [bitOf_maskOf, state]
  rfl

/-- TAKE makes room in a full list, and the next entry is stored behind those kept (R156, R158). -/
theorem take_makes_room (s : State) (full : s.acu.history.length = 48) (transmits : s.transmits = true)
    (shown : s.acu.shown = true) :
    ∃ t, exec .cmdTake s = .next t ∧ ∀ e : Entry, (t.writeEntry e).acu.history = s.acu.history.tail ++ [e] := by
  refine ⟨s.takeTake, rfl, fun e => ?_⟩
  have some_entry : s.acu.history ≠ [] := List.ne_nil_of_length_eq_add_one full
  have taken : s.takeTake.acu.history = s.acu.history.tail := by
    simp [State.takeTake, State.judged, State.takeHead, transmits, shown, some_entry]
  have room : s.takeTake.acu.history.length < 48 := by
    rw [taken, List.length_tail, full]
    decide
  rw [(writeEntry_of_room _ e room).1, taken]

/-- Settles O52: an entry written with room and without, a failure and an interruption with the list full as with it empty,
TAKE, the flag under every step, and its bit in the frame. -/
theorem entryIsStoredAtTheTail : Obligations.EntryIsStoredAtTheTail :=
  ⟨fun s e => ⟨writeEntry_of_room s e, writeEntry_of_full s e⟩,
    fun s full =>
      ⟨fun i kind finding =>
          ⟨dropsWhenFull_failSocket i kind finding s s.acu.overflow s.acu.shown full, failSocket_failed s i kind finding⟩,
        fun cause => interrupt_of_full s cause s.acu.overflow s.acu.shown full,
        interrupt_intCount_of_active s,
        take_makes_room s full⟩,
    fun _ _ => step_overflow,
    bitOf_flagsByte_overflow⟩

end Sys2Proof.Machine
end

section
/-! SUPPORT. The history's bound, the pool's order, the FAILED sockets and the switches under the rows that are not plain: the
two of reset, the profile load, CLEAR, and a frame, which may carry CLEAR (R103, R104, R133, R135, R149, R154). -/

namespace Sys2Proof.Machine

/-- What every operation, clearing or not, keeps of the stores: the history's bound and the order of the pool. -/
structure KeepsStores (s t : State) : Prop where
  history : s.historyBounded → t.historyBounded
  pool : s.poolInOrder → t.poolInOrder

theorem Keeps.stores {s t : State} (h : Keeps s t) : KeepsStores s t := ⟨h.history, h.pool⟩

theorem KeepsStores.refl (s : State) : KeepsStores s s := ⟨id, id⟩

theorem KeepsStores.trans {s t u : State} (a : KeepsStores s t) (b : KeepsStores t u) : KeepsStores s u :=
  ⟨b.history ∘ a.history, b.pool ∘ a.pool⟩

theorem KeepsStores.ite {s t u : State} {c : Prop} [Decidable c] (ht : KeepsStores s t) (hu : KeepsStores s u) :
    KeepsStores s (if c then t else u) := by
  split
  · exact ht
  · exact hu

/-- An operation that leaves the history, the heaters, the tokens and the wait queue. -/
theorem KeepsStores.same {s t : State} (hh : t.acu.history = s.acu.history) (ht : t.thu = s.thu) : KeepsStores s t where
  history h := by unfold State.historyBounded at *; rw [hh]; exact h
  pool := poolInOrder_of_eq (by rw [ht]) (by rw [ht]) (by rw [ht])

/-! ### Reset, the load and CLEAR -/

theorem historyBounded_reset : State.reset.historyBounded := Nat.zero_le _

theorem poolInOrder_reset : State.reset.poolInOrder :=
  pool_stopped _ (fun i => by simp [State.reset, Thu.initial, Heater.initial]) rfl

theorem keepsStores_pinReset (s : State) : KeepsStores s s.pinReset :=
  (⟨fun _ => historyBounded_reset, fun _ => poolInOrder_reset⟩ : KeepsStores s State.reset).trans
    (KeepsStores.same rfl rfl)

theorem keepsStores_releaseReset (s : State) (slot : Slot) (rate : Bool) :
    KeepsStores s (s.releaseReset slot rate) := by
  unfold State.releaseReset
  exact KeepsStores.ite (KeepsStores.same rfl rfl) (KeepsStores.refl s)

theorem keepsStores_endLoad (s : State) (memory : List Byte) : KeepsStores s (s.endLoad memory) := by
  unfold State.endLoad
  refine KeepsStores.ite ?_ (KeepsStores.refl s)
  split
  · exact KeepsStores.same rfl rfl
  · next p image _ =>
    have loaded : KeepsStores s (s.handOnProfile p image) := KeepsStores.same rfl rfl
    exact KeepsStores.ite (loaded.trans (KeepsStores.same rfl rfl)) (loaded.trans (keeps_enterMuted _ _).stores)

/-- CLEAR empties the history, and leaves every heater in its phase (R51, R148). -/
theorem keepsStores_clearStation (s : State) : KeepsStores s s.clearStation where
  history _ := Nat.zero_le _
  pool h := by
    have sensors := pool_mapHeaters s (fun _ x => { x with sensorStreak := 0 }) (fun _ _ => rfl) h
    exact poolInOrder_of_eq (s := s.mapHeaters (fun _ x => { x with sensorStreak := 0 })) rfl rfl rfl sensors

theorem keepsStores_takeClear (s : State) : KeepsStores s s.takeClear := by
  unfold State.takeClear State.judged
  refine KeepsStores.ite (KeepsStores.refl s) (KeepsStores.ite (KeepsStores.same rfl rfl) ?_)
  exact KeepsStores.ite (KeepsStores.same rfl rfl) ((keepsStores_clearStation s).trans (KeepsStores.same rfl rfl))

/-! ### A frame -/

/-- A command taken from a frame is refused, or CLEAR, or one of the ten others. -/
theorem takeCommand_cases (s : State) (broadcast : Bool) (code : Byte) (args : List Byte) :
    s.takeCommand broadcast code args = s.refuseForm code ∨ s.takeCommand broadcast code args = s.takeClear ∨
    (1 ≤ code.toNat ∧ code.toNat ≤ 10) ∧ s.takeCommand broadcast code args = s.dispatchCommand code.toNat args := by
  unfold State.takeCommand
  by_cases form : formOk broadcast code.toNat args.length = true
  · rw [if_pos form]
    simp only [formOk, Bool.and_eq_true, decide_eq_true_eq] at form
    obtain ⟨⟨⟨one_le, le_eleven⟩, -⟩, -⟩ := form
    by_cases clear : code.toNat = 11
    · rw [clear]; exact .inr (.inl rfl)
    · exact .inr (.inr ⟨⟨one_le, by omega⟩, rfl⟩)
  · rw [if_neg form]; exact .inl rfl

theorem keepsStores_takeCommand (s : State) (broadcast : Bool) (code : Byte) (args : List Byte) :
    KeepsStores s (s.takeCommand broadcast code args) := by
  obtain refused | clear | ⟨range, other⟩ := takeCommand_cases s broadcast code args
  · rw [refused]; exact (keeps_refuseForm s code).stores
  · rw [clear]; exact keepsStores_takeClear s
  · rw [other]; exact (keeps_dispatchCommand s _ args range).stores

theorem keepsStores_hearFrame (s : State) (slot : Slot) (bytes : List Byte) : KeepsStores s (s.hearFrame slot bytes) := by
  have same : KeepsStores s s := KeepsStores.refl s
  unfold State.hearFrame
  refine KeepsStores.ite same (KeepsStores.ite (KeepsStores.same rfl rfl) ?_)
  refine KeepsStores.ite same (KeepsStores.ite same (KeepsStores.ite same ?_))
  split
  · unfold State.hearCommand
    split
    · exact same
    · next f _ =>
      have stored : KeepsStores s (s.storeCommand slot f.round) := KeepsStores.same rfl rfl
      exact KeepsStores.ite (stored.trans (keepsStores_takeCommand _ _ _ _)) stored
  · exact (keeps_hearStatus s _ bytes).stores

/-! ### Every row and every step -/

theorem exec_keepsStores (c : Instr) {s t : State} (next : exec c s = .next t) : KeepsStores s t := by
  cases c with
  | pinReset => cases next; exact keepsStores_pinReset s
  | resetRelease slot rate => cases next; exact keepsStores_releaseReset s slot rate
  | profileLoadEnd memory => cases next; exact keepsStores_endLoad s memory
  | frameReceived slot bytes => cases next; exact keepsStores_hearFrame s slot bytes
  | cmdClear => cases next; exact keepsStores_takeClear s
  | _ => exact (exec_keeps _ s t rfl next).stores

/-- A step is the clock's on an empty queue, and otherwise the row of the front command, run with the queue's rest. -/
theorem step_cases {s t : State} (next : step s = .next t) :
    (s.pending = [] ∧ t = s.tick) ∨
    ∃ c rest, s.pending = c :: rest ∧ exec c { s with pending := rest } = .next t := by
  unfold step at next
  split at next
  · next empty => cases next; exact .inl ⟨empty, rfl⟩
  · next c rest queue => exact .inr ⟨c, rest, queue, next⟩

theorem step_keepsStores {s t : State} (next : step s = .next t) : KeepsStores s t := by
  obtain ⟨-, rfl⟩ | ⟨c, rest, -, row⟩ := step_cases next
  · exact (keeps_tick s).stores
  · have queued : KeepsStores s { s with pending := rest } := KeepsStores.same rfl rfl
    exact queued.trans (exec_keepsStores c row)

/-- Settles O55: the shared operations keep the bound, and CLEAR and reset empty the list. -/
theorem stepKeepsTheHistoryBounded : Obligations.StepKeepsTheHistoryBounded :=
  fun _ _ bounded next => (step_keepsStores next).history bounded

/-- Settles O57: the shared operations keep the order of the pool, and reset stops every heater. -/
theorem stepKeepsThePoolInOrder : Obligations.StepKeepsThePoolInOrder :=
  fun _ _ ordered next => (step_keepsStores next).pool ordered

/-! ### FAILED sockets and switches -/

/-- A row that does not clear is plain, or the latching of the straps. -/
theorem plainRow_or_release {c : Instr} (clear : c.mayClear = false) :
    plainRow c = true ∨ ∃ slot rate, c = .resetRelease slot rate := by
  cases c with
  | resetRelease slot rate => exact .inr ⟨slot, rate, rfl⟩
  | _ => exact .inl (by simp [plainRow, clear])

/-- The latching of the straps leaves the sockets' records and their switches. -/
theorem releaseReset_frame (s : State) (slot : Slot) (rate : Bool) :
    (s.releaseReset slot rate).acu = s.acu ∧ (s.releaseReset slot rate).rlu = s.rlu := by
  unfold State.releaseReset
  split <;> exact ⟨rfl, rfl⟩

/-- Settles O58: a row that does not clear keeps every FAILED record. -/
theorem stepKeepsFailedSockets : Obligations.StepKeepsFailedSockets := by
  intro s t clear next
  obtain ⟨-, rfl⟩ | ⟨c, rest, queue, row⟩ := step_cases next
  · exact (keeps_tick s).keepsFailed
  · obtain plain | ⟨slot, rate, rfl⟩ := plainRow_or_release (clear c (by rw [queue]; rfl))
    · exact (exec_keeps c { s with pending := rest } t plain row).keepsFailed
    · cases row
      intro i failed
      have acu := (releaseReset_frame { s with pending := rest } slot rate).1
      rw [State.socketState, acu]
      exact ⟨failed, rfl⟩

/-- Settles O59: a row that does not clear moves a switch with its record. -/
theorem stepKeepsSwitchesWithTheRecords : Obligations.StepKeepsSwitchesWithTheRecords := by
  intro s t agree clear next
  obtain ⟨-, rfl⟩ | ⟨c, rest, queue, row⟩ := step_cases next
  · exact (agrees_tick s).switchesAgree agree
  · obtain plain | ⟨slot, rate, rfl⟩ := plainRow_or_release (clear c (by rw [queue]; rfl))
    · exact (exec_agrees c { s with pending := rest } t plain row).switchesAgree agree
    · cases row
      obtain ⟨acu, rlu⟩ := releaseReset_frame { s with pending := rest } slot rate
      intro i
      rw [State.socketState, acu, rlu]
      exact agree i

/-- Settles O1: that is how a step is defined. -/
theorem stepRunsTheFrontCommand : Obligations.StepRunsTheFrontCommand := by
  intro s c rest queue
  unfold step
  rw [queue]

end Sys2Proof.Machine
end

section
/-! SUPPORT. Run control under the rows of the sockets, the heaters, the pattern engine and the clock: none of them moves it.
With them, a MUTED station and one in LOADFAIL stay as they are until pin reset (R25, R26). -/

namespace Sys2Proof.Machine

variable (s : State)

/-! ### What leaves run control -/

@[simp] theorem State.writeSocketEntry_rcu (i : Socket) (f : Finding) (b : Bool) :
    (s.writeSocketEntry i f b).rcu = s.rcu := State.writeEntry_rcu s _

@[simp] theorem State.writeInterruption_rcu (c : IntCause) : (s.writeInterruption c).rcu = s.rcu := State.writeEntry_rcu s _

theorem endHeating_rcu (i : Socket) : (s.endHeating i).rcu = s.rcu := by
  unfold State.endHeating State.tokenReturned
  split
  · split
    · rfl
    · exact (serveHead_frame _).2.2.1
  · rfl
  · rfl

theorem startPeriod_rcu (i : Socket) : (s.startPeriod i).rcu = s.rcu := by
  unfold State.startPeriod
  dsimp only
  split
  · rfl
  · split <;> rfl

theorem failSocket_rcu (i : Socket) (kind : FailKind) (finding : Finding) : (s.failSocket i kind finding).rcu = s.rcu := by
  obtain ⟨⟨-, -, -, -, -, -, -, -, -, -, -, -, rcu, -⟩, -⟩ := failSocket_fails s i kind finding
  exact rcu

theorem trip_rcu (i : Socket) (detail : Nat) : (s.trip i detail).rcu = s.rcu := by
  by_cases powered : (s.socketState i).powered = true
  · obtain ⟨retry, fails⟩ := trip_trips s i detail powered
    by_cases left : s.acu.records[i].retries < s.prof.retryLimit
    · obtain ⟨⟨-, -, -, -, -, -, -, -, -, -, -, -, rcu, -⟩, -⟩ := retry left
      exact rcu
    · obtain ⟨⟨-, -, -, -, -, -, -, -, -, -, -, -, rcu, -⟩, -⟩ := fails (Nat.not_lt.mp left)
      exact rcu
  · unfold State.trip
    rw [if_neg powered]

theorem foldl_rcu {α : Type} {f : State → α → State} (leaves : ∀ t a, (f t a).rcu = t.rcu) (l : List α) :
    (l.foldl f s).rcu = s.rcu := by
  induction l generalizing s with
  | nil => rfl
  | cons a l ih => exact (ih (f s a)).trans (leaves s a)

theorem checkSocket_rcu (i : Socket) : (s.checkSocket i).rcu = s.rcu := by
  unfold State.checkSocket State.judgeMismatch
  split_ifs
  · rfl
  · exact failSocket_rcu _ _ _ _
  · rfl
  · simp
  · rfl

theorem postResults_rcu : s.postResults.rcu = s.rcu := by
  unfold State.postResults
  split
  · exact foldl_rcu s checkSocket_rcu allSockets
  · rfl

theorem raiseFirst_rcu : s.raiseFirst.rcu = s.rcu := by
  unfold State.raiseFirst
  split <;> rfl

theorem finishWinddown_of_ne (h : s.rcu.state ≠ .windDown) : s.finishWinddown = s := by
  unfold State.finishWinddown
  exact if_neg (fun both => h both.1)

/-- Outside WINDDOWN the fall of the rails changes no state. -/
theorem takeFalling_rcu_of_ne (rails : List Rail) (h : s.rcu.state ≠ .windDown) : (s.takeFalling rails).rcu = s.rcu := by
  induction rails with
  | nil => exact congrArg State.rcu (finishWinddown_of_ne s h)
  | cons r rest ih =>
    unfold State.takeFalling
    split
    · exact ih
    · rfl

theorem railDown_rcu_of_ne (r : Rail) (h : s.rcu.state ≠ .windDown) : (s.railDown r).rcu = s.rcu := by
  unfold State.railDown
  dsimp only
  split
  · exact takeFalling_rcu_of_ne _ _ h
  · exact takeFalling_rcu_of_ne _ _ h

theorem dutTick_rcu : s.dutTick.1.rcu = s.rcu := by
  unfold State.dutTick
  dsimp only
  split_ifs
  · rfl
  · rfl
  · split <;> rfl
  · rfl

theorem restTimers_rcu : s.restTimers.rcu = s.rcu := by
  simp only [State.restTimers, State.mapHeaters_rcu, State.mapRails_rcu, State.mapPower_rcu]

theorem passTime_rcu : s.passTime.rcu = s.rcu := by
  simp only [State.passTime, State.queueUp_rcu, State.countPorts, State.countBiu, State.countTimers, State.mapHeaters_rcu,
    State.mapRails_rcu, State.mapPower_rcu, dutTick_rcu]

/-- 25 ns of the clock, and what falls due, leave run control. -/
theorem tick_rcu : s.tick.rcu = s.rcu := by
  unfold State.tick
  split
  · rfl
  · split_ifs
    · rfl
    · rfl
    · exact passTime_rcu s
    · rw [State.queueUp_rcu, restTimers_rcu]

theorem stopFrame_rcu : s.stopFrame.rcu = s.rcu := by
  unfold State.stopFrame
  split <;> rfl

theorem endFrame_rcu : s.endFrame.rcu = s.rcu := by
  unfold State.endFrame State.hearOwn
  split_ifs
  · rfl
  · split
    · split <;> rfl
    · rfl
    · rfl

/-! ### A station that has stopped -/

/-- The station is in MUTED or LOADFAIL (R26). -/
def State.halted : Prop := s.rcu.state = .muted ∨ s.rcu.state = .loadFail

variable {s}

theorem State.halted.transmits (h : s.halted) : s.transmits = false := by
  unfold State.transmits
  obtain state | state := h <;> rw [state]

theorem State.halted.running (h : s.halted) : s.running = false := by
  have transmits := h.transmits
  unfold State.running
  rw [transmits]
  obtain state | state := h <;> rw [state] <;> rfl

theorem State.halted.ne (h : s.halted) {st : StationState} (muted : st ≠ .muted) (fail : st ≠ .loadFail) :
    s.rcu.state ≠ st := by
  obtain state | state := h <;> rw [state]
  · exact muted.symm
  · exact fail.symm

theorem State.halted.ending (h : s.halted) : s.ending = none := by
  simp [State.ending, h.running]

/-- No reading is handed over. -/
theorem State.halted.handOver (h : s.halted) (x : ScanInput) (user : State → State) : s.handOver x user = s := by
  unfold State.handOver
  rw [h.ending]
  exact if_neg (fun e => by cases e)

/-- No command is taken. -/
theorem State.halted.judged (h : s.halted) (code : BitVec 4) (inState valid : Bool) (effect : State × CmdResult) :
    s.judged code inState valid effect = s := by
  unfold State.judged
  exact if_pos h.transmits

theorem State.halted.interrupt (h : s.halted) (cause : IntCause) : s.interrupt cause = s := by
  unfold State.interrupt
  obtain state | state := h <;> rw [state]

theorem State.halted.stopComplete (h : s.halted) : s.stopComplete = s := by
  unfold State.stopComplete
  obtain state | state := h <;> rw [state]

theorem State.halted.endPass (h : s.halted) : s.endPass.rcu = s.rcu := by
  unfold State.endPass
  have posted := postResults_rcu s
  generalize s.postResults = t at posted ⊢
  dsimp only
  have stopped : t.stopEngine.halted := by
    unfold State.halted
    rw [show t.stopEngine.rcu = s.rcu from posted]
    exact h
  split_ifs
  · rw [stopped.stopComplete]; exact posted
  · exact (raiseFirst_rcu _).trans posted
  · rfl

/-- No row but pin reset moves run control in MUTED and LOADFAIL: no edge and no frame is taken, no reading handed over, no
command, signal or completion acted on. -/
theorem State.halted.exec_rcu (h : s.halted) {c : Instr} {t : State} (reset : c ≠ .pinReset) (next : exec c s = .next t) :
    t.rcu = s.rcu := by
  have running := h.running
  have transmits := h.transmits
  have handed := h.handOver
  have judged := h.judged
  have listen := h.ne (st := .listen) (by decide) (by decide)
  have active := h.ne (st := .active) (by decide) (by decide)
  have loading := h.ne (st := .loading) (by decide) (by decide)
  have inReset := h.ne (st := .reset) (by decide) (by decide)
  have windDown := h.ne (st := .windDown) (by decide) (by decide)
  cases c with
  | pinReset => exact absurd rfl reset
  | resetRelease slot rate => cases next; simp [State.releaseReset, inReset]
  | profileLoadEnd memory => cases next; simp [State.endLoad, State.loadEnds, loading]
  | roundTimerExpiry => cases next; simp [State.expire, running]
  | mark => cases next; simp [State.edge, running]
  | joinWaitEnd => cases next; simp [State.endJoinWait, State.joinDue, listen]
  | recoveringEnd => cases next; simp [State.endRecovering, active]
  | retryWaitEnd i => cases next; simp [State.endRetryWait, State.retries, active]
  | halfRoundScan => cases next; simp [State.halfRound, running]
  | statusFrameBuild => cases next; simp [State.buildFrame, transmits]
  | readbackMismatch => cases next; exact stopFrame_rcu s
  | statusFrameEnd => cases next; exact endFrame_rcu s
  | frameReceived slot bytes => cases next; simp [State.hearFrame, State.receives, running]
  | frameBroken slot => cases next; unfold State.breakFrame; split <;> rfl
  | cmdPlan args => cases next; rw [State.takePlan, judged]
  | cmdStart => cases next; rw [State.takeStart, judged]
  | cmdHold => cases next; rw [State.takeHold, judged]
  | cmdResume => cases next; rw [State.takeResume, judged]
  | cmdAdvance q => cases next; rw [State.takeAdvance, judged]
  | cmdAbort => cases next; rw [State.takeAbort, judged]
  | cmdExclude b => cases next; rw [State.takeExclude, judged]
  | cmdInclude b => cases next; rw [State.takeInclude, judged]
  | cmdRead b => cases next; rw [State.takeRead, judged]
  | cmdTake => cases next; rw [State.takeTake, judged]
  | cmdClear => cases next; rw [State.takeClear, judged]
  | invalidCommand code => cases next; simp [State.refuseForm, transmits]
  | socketCurrentReading i current => cases next; rw [State.readCurrent, handed]
  | instantTrip i current => cases next; unfold State.tripInstantly; dsimp only; split_ifs; exacts [trip_rcu _ _ _, rfl]
  | socketSettleEnd i => cases next; unfold State.endSettle; split <;> rfl
  | railReading r reading => cases next; rw [State.readRail, handed]
  | railSettleTimeout r => cases next; unfold State.railFails; rw [h.interrupt, ite_self]
  | railFallTimeout r => cases next; unfold State.railFallen; split_ifs; exacts [railDown_rcu_of_ne s r windDown, rfl]
  | bulkReading voltage => cases next; rw [State.readBulk, handed]
  | boardCurrentReading current => cases next; rw [State.readBoard, handed]
  | temperatureReading i code => cases next; rw [State.readTemperature, handed]
  | scanCompletion => cases next; simp [State.completeScan, State.scanEnds, running]
  | heaterPeriodStart i =>
    cases next
    unfold State.nextPeriod
    split_ifs
    exacts [rfl, (startPeriod_rcu _ i).trans (endHeating_rcu s i)]
  | heaterOnEnd i => cases next; unfold State.endOnPhase; split_ifs; exacts [endHeating_rcu s i, rfl]
  | passEnd => cases next; exact h.endPass
  | doorChange asserted => cases next; rfl
  | framingError slot => cases next; unfold State.misframe; split <;> rfl

/-- Settles O60: the clock and every row but pin reset leave run control. -/
theorem mutedStationStaysMuted : Obligations.MutedStationStaysMuted := by
  intro s t halted reset next
  have rcu : t.rcu = s.rcu := by
    obtain ⟨-, rfl⟩ | ⟨c, rest, queue, row⟩ := step_cases next
    · exact tick_rcu s
    · have halted : State.halted { s with pending := rest } := halted
      exact halted.exec_rcu (reset c (by rw [queue]; rfl)) row
  refine ⟨by rw [rcu], ?_⟩
  unfold State.faultLine
  obtain state | state := halted <;> rw [rcu, state] <;> rfl

/-! ### Reset -/

/-- At reset no socket, rail or heater is at work. -/
theorem reset_at_rest :
    (∀ i : Socket, State.reset.socketState i = .off ∧ State.reset.rlu.sockets[i] = SocketPower.initial ∧
      State.reset.thu.heaters[i] = Heater.initial) ∧
    State.reset.railsOff = true ∧ State.reset.holders = 0 := by
  decide

theorem lawful_reset : State.reset.Lawful where
  pool := poolInOrder_reset
  switches i := by
    obtain ⟨record, power, -⟩ := reset_at_rest.1 i
    rw [record, power]; rfl
  cold i _ := by
    obtain ⟨-, -, heater⟩ := reset_at_rest.1 i
    rw [heater]; decide
  finals := ⟨fun e member => absurd member List.not_mem_nil, List.Pairwise.nil⟩
  fresh _ := rfl
  profile loaded := absurd (.inl rfl) loaded
  sum engaged := by obtain active | ⟨windDown, -⟩ := engaged <;> contradiction
  allowances engaged := by obtain active | ⟨windDown, -⟩ := engaged <;> contradiction
  carry engaged := by obtain active | ⟨windDown, -⟩ := engaged <;> contradiction
  rails engaged := by obtain active | ⟨windDown, -⟩ := engaged <;> contradiction
  deferred engaged := by obtain active | ⟨windDown, -⟩ := engaged <;> contradiction
  needs active := by contradiction
  windDown windDown := by contradiction
  falling windDown := by contradiction
  rest _ := ⟨reset_at_rest.2.2, rfl, fun i => by rw [(reset_at_rest.1 i).2.1]; rfl⟩
  idle _ _ _ := ⟨rfl, rfl, reset_at_rest.2.1, rfl, rfl⟩
  muted muted := by contradiction

/-- Settles O53: nothing is held, written or driven at reset. -/
theorem lawsHoldAtReset : Obligations.LawsHoldAtReset :=
  ⟨historyBounded_reset, creditBounded_reset, poolInOrder_reset, lawful_reset.switches, lawful_reset⟩

end Sys2Proof.Machine
end

section
/-! SUPPORT. The step on an empty queue, one lemma for each thing it can do, and what 25 ns leave and count (R4, R11, R72, R76,
R80, R81, R83, R94, R101, R102, R112, R175; log entries 1 and 2). -/

namespace Sys2Proof.Machine

/-! ### Ticks -/

@[simp] theorem usTicks_eq (n : Nat) : usTicks n = 40 * n := Nat.mul_comm n 40

@[simp] theorem msTicks_eq (n : Nat) : msTicks n = 40000 * n := by
  rw [msTicks, usTicks_eq]
  omega

variable {s : State}

/-! ### The step on an empty queue -/

theorem step_of_empty (empty : s.pending = []) : step s = .next s.tick := by
  unfold step
  rw [empty]

theorem State.ending_iff (input : ScanInput) : s.ending = some input ↔
    s.running = true ∧ s.scanner.place % 800 = 0 ∧ s.scanner.converting = some input := by
  unfold State.ending
  have ticks : Config.conversionTicks = 800 := rfl
  rw [ticks]
  split_ifs with h
  · simp [h]
  · simp only [false_iff]
    exact fun ⟨running, place, _⟩ => h ⟨running, place⟩

theorem tick_of_ending {input : ScanInput} (ending : s.ending = some input) :
    s.tick = State.queueUp { s with scanner := { s.scanner with conversions := s.scanner.conversions + 1 } }
      [input.reading (Config.conversion s.scanner.conversions)] := by
  unfold State.tick
  rw [ending]

theorem tick_of_scanEnds (ending : s.ending = none) (scan : s.scanEnds = true) :
    s.tick = s.queueUp [.scanCompletion] := by
  unfold State.tick
  rw [ending]
  exact if_pos scan

theorem tick_of_timersDue (ending : s.ending = none) (scan : s.scanEnds = false) (due : s.timersDue ≠ []) :
    s.tick = s.restTimers.queueUp s.timersDue := by
  unfold State.tick
  rw [ending, scan]
  exact if_neg due

theorem tick_of_loadEnds (ending : s.ending = none) (scan : s.scanEnds = false) (due : s.timersDue = [])
    (load : s.loadEnds fullMemory = true) : s.tick = s.queueUp [.profileLoadEnd fullMemory] := by
  unfold State.tick
  rw [ending, scan]
  exact (if_pos due).trans (if_pos load)

theorem tick_of_quiet (ending : s.ending = none) (scan : s.scanEnds = false) (due : s.timersDue = [])
    (load : s.loadEnds fullMemory = false) : s.tick = s.passTime := by
  unfold State.tick
  rw [ending, scan, load]
  exact if_pos due

/-! ### Timers that have run out -/

theorem restTimer_eq (t : Option Nat) : restTimer t = if t = some 0 then none else t := by
  obtain _ | n := t
  · rfl
  · by_cases zero : n = 0 <;> simp [restTimer, zero]

theorem railDue_eq_some (r : Rail) (c : Instr) : s.railDue r = some c ↔
    s.rlu.rails[r.ix].timer = some 0 ∧
      ((s.railState r = .ramping ∨ s.railState r = .retargeting) ∧ c = .railSettleTimeout r ∨
        s.railState r = .falling ∧ c = .railFallTimeout r) := by
  unfold State.railDue State.railState
  generalize s.rlu.rails[r.ix] = u
  by_cases out : u.timer = some 0
  · cases state : u.state <;> simp [out, state, eq_comm]
  · simp [out]

theorem mem_allRails (r : Rail) : r ∈ allRails := by cases r <;> decide

theorem mem_timersDue (c : Instr) : c ∈ s.timersDue ↔
    (∃ i : Socket, s.rlu.sockets[i].settle = some 0 ∧ c = .socketSettleEnd i) ∨
    (∃ r : Rail, s.rlu.rails[r.ix].timer = some 0 ∧
      ((s.railState r = .ramping ∨ s.railState r = .retargeting) ∧ c = .railSettleTimeout r ∨
        s.railState r = .falling ∧ c = .railFallTimeout r)) ∨
    (∃ i : Socket, s.thu.heaters[i].onLeft = some 0 ∧ c = .heaterOnEnd i) ∨
    (∃ i : Socket, s.thu.heaters[i].nextStart = some 0 ∧ c = .heaterPeriodStart i) := by
  unfold State.timersDue
  simp only [List.mem_append, List.mem_map, List.mem_filterMap, List.mem_filter, allSockets, List.mem_finRange, true_and,
    beq_iff_eq, mem_allRails, railDue_eq_some, or_assoc, eq_comm (a := c)]

theorem restTimers_sockets (i : Socket) : s.restTimers.rlu.sockets[i] = { s.rlu.sockets[i] with
    settle := if s.rlu.sockets[i].settle = some 0 then none else s.rlu.sockets[i].settle } := by
  rw [← restTimer_eq]
  simp only [State.restTimers, State.mapHeaters_rlu, State.mapRails_sockets, State.mapPower_sockets]

theorem restTimers_heaters (i : Socket) : s.restTimers.thu.heaters[i] = { s.thu.heaters[i] with
    nextStart := if s.thu.heaters[i].nextStart = some 0 then none else s.thu.heaters[i].nextStart
    onLeft := if s.thu.heaters[i].onLeft = some 0 then none else s.thu.heaters[i].onLeft } := by
  rw [← restTimer_eq, ← restTimer_eq]
  simp only [State.restTimers, State.mapHeaters_heaters, State.mapRails_thu, State.mapPower_thu]

theorem restTimers_rails (r : Rail) : s.restTimers.rlu.rails[r.ix] = { s.rlu.rails[r.ix] with
    timer := if s.rlu.rails[r.ix].timer = some 0 then none else s.rlu.rails[r.ix].timer } := by
  rw [← restTimer_eq]
  simp only [State.restTimers, State.mapHeaters_rlu, State.mapRails_rails, State.mapPower_rails]

/-- What stopping the timers leaves. -/
theorem restTimers_frame (s : State) : s.restTimers =
    { s with rlu := { s.rlu with sockets := s.restTimers.rlu.sockets, rails := s.restTimers.rlu.rails }
             thu := { s.thu with heaters := s.restTimers.thu.heaters } } := by
  simp only [State.restTimers, State.mapHeaters, State.mapRails, State.mapPower]

/-- Settles O2: each thing that is due, and which timers' events those are. -/
theorem dueEventsJoinTheQueue : Obligations.DueEventsJoinTheQueue := by
  intro s empty
  rw [step_of_empty empty]
  refine ⟨fun input running place converting => ?_, fun ending running scan channel => ?_, fun ending scan due => ?_,
    fun ending scan due loading clock => ?_, mem_timersDue⟩
  · rw [tick_of_ending ((State.ending_iff input).mpr ⟨running, place, converting⟩), State.queueUp, empty]
    rfl
  · have ends : s.scanEnds = true := by simp [State.scanEnds, running, channel, Option.isSome_iff_ne_none, scan]
    rw [tick_of_scanEnds ending ends, State.queueUp, empty]
    rfl
  · refine ⟨_, rfl, ?_⟩
    rw [tick_of_timersDue ending scan due]
    have sockets := restTimers_sockets (s := s)
    have heaters := restTimers_heaters (s := s)
    have rails := restTimers_rails (s := s)
    have frame := restTimers_frame s
    generalize s.restTimers = t at *
    rw [frame]
    refine ⟨?_, rfl, rfl, rfl, rfl, rfl, rfl, rfl, rfl, rfl, rfl, fun i => ⟨sockets i, heaters i⟩, rails⟩
    exact (congrArg (· ++ s.timersDue) empty).trans (List.nil_append _)
  · have ends : s.loadEnds fullMemory = true := by
      rw [State.loadEnds_iff, bytesRead_fullMemory]
      exact ⟨loading, clock⟩
    rw [tick_of_loadEnds ending scan due ends, State.queueUp, empty]
    rfl

/-! ### 25 ns -/

/-- The clock of the dies moves the pattern engine alone. -/
theorem dutTick_eq (s : State) : s.dutTick.1 = { s with ptu := s.dutTick.1.ptu } := by
  unfold State.dutTick
  dsimp only
  split_ifs
  · rfl
  · rfl
  · split <;> rfl
  · rfl

/-- 25 ns of every clock, the pattern engine's own apart. -/
theorem passTime_eq (s : State) : s.passTime =
    State.queueUp { s with ptu := s.dutTick.1.ptu }.countTimers.countBiu.countPorts (s.tickDue s.dutTick.2) := by
  unfold State.passTime
  rw [← dutTick_eq]

/-- One tick of the BIU's counters reads the state of the station and the BIU. -/
theorem countBiu_congr {s t : State} (rcu : t.rcu = s.rcu) (biu : t.biu = s.biu) :
    t.countBiu.biu = s.countBiu.biu := by
  unfold State.countBiu State.usEnds State.running State.transmits State.sends
  rw [rcu, biu]

/-- One tick of the scanner and the port reads the state of the station, the scanner and the LDR. -/
theorem countPorts_congr {s t : State} (rcu : t.rcu = s.rcu) (scanner : t.scanner = s.scanner) (ldr : t.ldr = s.ldr) :
    t.countPorts.scanner = s.countPorts.scanner ∧ t.countPorts.ldr = s.countPorts.ldr := by
  unfold State.countPorts State.running State.transmits
  rw [rcu, scanner, ldr]
  exact ⟨rfl, rfl⟩

/-- One tick of the timers moves the sockets, the rails and the heaters alone. -/
theorem countTimers_frame (s : State) : s.countTimers =
    { s with rlu := { s.rlu with sockets := s.countTimers.rlu.sockets, rails := s.countTimers.rlu.rails }
             thu := { s.thu with heaters := s.countTimers.thu.heaters } } := by
  simp only [State.countTimers, State.mapHeaters, State.mapRails, State.mapPower]

theorem countTimers_ptu (s : State) (p : Ptu) :
    { s with ptu := p }.countTimers.rlu = s.countTimers.rlu ∧ { s with ptu := p }.countTimers.thu = s.countTimers.thu := by
  simp only [State.countTimers, State.mapHeaters, State.mapRails, State.mapPower, and_self]

/-- The state whose counters count, in a tick: the clock of the dies and the timers have moved. -/
theorem passTime_counts (s : State) : ∃ t : State, t =
    { s with ptu := s.dutTick.1.ptu
             rlu := { s.rlu with sockets := s.countTimers.rlu.sockets, rails := s.countTimers.rlu.rails }
             thu := { s.thu with heaters := s.countTimers.thu.heaters } } ∧
    s.passTime = t.countBiu.countPorts.queueUp (s.tickDue s.dutTick.2) := by
  refine ⟨_, rfl, ?_⟩
  rw [passTime_eq, countTimers_frame]
  simp only [countTimers_ptu]

/-- What 25 ns leave, and what they write (R4, R80, R112, R175). -/
theorem passTime_fields (s : State) :
    s.passTime.rcu = s.rcu ∧ s.passTime.bdu = s.bdu ∧ s.passTime.acu = s.acu ∧ s.passTime.door = s.door ∧
    s.passTime.ptu = s.dutTick.1.ptu ∧ s.passTime.biu = s.countBiu.biu ∧
    s.passTime.rlu = { s.rlu with sockets := s.countTimers.rlu.sockets, rails := s.countTimers.rlu.rails } ∧
    s.passTime.thu = { s.thu with heaters := s.countTimers.thu.heaters } ∧
    s.passTime.scanner = s.countPorts.scanner ∧ s.passTime.ldr = s.countPorts.ldr ∧
    s.passTime.pending = s.pending ++ s.tickDue s.dutTick.2 := by
  obtain ⟨t, counted, eq⟩ := passTime_counts s
  have biu : t.countBiu.biu = s.countBiu.biu := countBiu_congr (by rw [counted]) (by rw [counted])
  have ports := countPorts_congr (s := s) (t := t.countBiu) (by subst counted; rfl) (by subst counted; rfl)
    (by subst counted; rfl)
  rw [eq]
  refine ⟨?_, ?_, ?_, ?_, ?_, biu, ?_, ?_, ports.1, ports.2, ?_⟩ <;> subst counted <;> rfl

theorem usEnds_iff : s.usEnds = true ↔ (s.running = true ∧ s.biu.roundTimer ≠ 0) ∧ s.biu.usPhase + 1 = 40 := by
  have ticks : Config.ticksPerUs = 40 := rfl
  simp [State.usEnds, ticks]

theorem frameEnds_iff : s.frameEnds = true ↔ s.sends = true ∧ s.biu.txClock + 1 = s.frameTicks := by
  simp [State.frameEnds]

/-- The events of the round timer at the end of a tick, each at its own (R4, R11, R94). -/
theorem mem_roundDue (c : Instr) : c ∈ s.roundDue ↔
    (s.usEnds = true ∧ s.transmits = true ∧ c = .statusFrameBuild ∧
      s.prof.period * 1000 - (s.biu.roundTimer - 1) = s.slot.val * s.prof.period * 1000 / 32) ∨
    (s.usEnds = true ∧ s.biu.synced = true ∧ s.biu.roundTimer - 1 = s.prof.period * 1000 / 2 ∧ c = .halfRoundScan) ∨
    (s.usEnds = true ∧ s.biu.roundTimer = 1 ∧ c = .roundTimerExpiry) := by
  have half : s.prof.period * 500 = s.prof.period * 1000 / 2 := by omega
  unfold State.roundDue State.slotBegin
  rw [half, Nat.mul_assoc]
  by_cases ends : s.usEnds = true
  · have one : s.biu.roundTimer - 1 = 0 ↔ s.biu.roundTimer = 1 := by
      have := (usEnds_iff.mp ends).1.2
      omega
    simp only [ends, one, if_true, List.mem_append, List.mem_ite_nil_right, List.mem_singleton, true_and, or_assoc,
      and_assoc, and_comm (a := c = .statusFrameBuild)]
  · simp [ends]

theorem mem_tickDue (passEnds : Bool) (c : Instr) : c ∈ s.tickDue passEnds ↔
    c ∈ s.roundDue ∨ s.frameEnds = true ∧ c = .statusFrameEnd ∨ passEnds = true ∧ c = .passEnd := by
  by_cases frame : s.frameEnds = true <;> cases passEnds <;> simp [State.tickDue, frame]

/-- What joins the queue at the end of 25 ns (R4, R11, R94, R118). -/
theorem mem_passTime_pending (empty : s.pending = []) (c : Instr) : c ∈ s.passTime.pending ↔
    c ∈ s.roundDue ∨ s.frameEnds = true ∧ c = .statusFrameEnd ∨ s.dutTick.2 = true ∧ c = .passEnd := by
  obtain ⟨-, -, -, -, -, -, -, -, -, -, pending⟩ := passTime_fields s
  rw [pending, ← mem_tickDue, empty, List.nil_append]

theorem passTime_sockets (i : Socket) : s.passTime.rlu.sockets[i] =
    { s.rlu.sockets[i] with settle := s.rlu.sockets[i].settle.map (· - 1), settledNow := false } := by
  obtain ⟨-, -, -, -, -, -, rlu, -⟩ := passTime_fields s
  rw [rlu]
  simp only [State.countTimers, State.mapHeaters_rlu, State.mapRails_sockets, State.mapPower_sockets, countDown]

theorem passTime_heaters (i : Socket) : s.passTime.thu.heaters[i] = { s.thu.heaters[i] with
    nextStart := s.thu.heaters[i].nextStart.map (· - 1), onLeft := s.thu.heaters[i].onLeft.map (· - 1) } := by
  obtain ⟨-, -, -, -, -, -, -, thu, -⟩ := passTime_fields s
  rw [thu]
  simp only [State.countTimers, State.mapHeaters_heaters, State.mapRails_thu, State.mapPower_thu, countDown]

theorem passTime_rails (r : Rail) :
    s.passTime.rlu.rails[r.ix] = { s.rlu.rails[r.ix] with timer := s.rlu.rails[r.ix].timer.map (· - 1) } := by
  obtain ⟨-, -, -, -, -, -, rlu, -⟩ := passTime_fields s
  rw [rlu]
  simp only [State.countTimers, State.mapHeaters_rlu, State.mapRails_rails, State.mapPower_rails, countDown]

/-- The round timer and the phase of its µs after 25 ns (R4; log entry 2). -/
theorem passTime_round : s.passTime.biu.roundTimer = (if s.usEnds then s.biu.roundTimer - 1 else s.biu.roundTimer) ∧
    s.passTime.biu.usPhase =
      if s.running = true ∧ s.biu.roundTimer ≠ 0 then (s.biu.usPhase + 1) % 40 else s.biu.usPhase := by
  obtain ⟨-, -, -, -, -, biu, -⟩ := passTime_fields s
  rw [biu]
  exact ⟨rfl, rfl⟩

/-- Settles O3: what 25 ns leave, count and make due. -/
theorem passingTimeCountsEveryTimer : Obligations.PassingTimeCountsEveryTimer := by
  refine ⟨fun n => ⟨usTicks_eq n, msTicks_eq n⟩, fun s empty ending scan due load => ?_⟩
  intro counts ends
  rw [step_of_empty empty, tick_of_quiet ending scan due (State.not_loadEnds_fullMemory s load)]
  obtain ⟨timer, phase⟩ := passTime_round (s := s)
  refine ⟨_, rfl, ?_⟩
  have sockets := passTime_sockets (s := s)
  have heaters := passTime_heaters (s := s)
  have rails := passTime_rails (s := s)
  have pending := mem_passTime_pending empty
  obtain ⟨rcu, bdu, acu, door, ptu, biu, rlu, thu, scanner, ldr, -⟩ := passTime_fields s
  generalize s.passTime = t at *
  refine ⟨rcu, bdu, acu, door, ptu, by rw [biu]; rfl, by rw [rlu], by rw [thu], fun i => ⟨sockets i, heaters i⟩, rails,
    by rw [biu]; rfl, fun h => ?_, fun h notEnds below => ?_, fun h => ?_, by rw [biu]; rfl, scanner, ldr, fun c => ?_⟩
  · rw [timer, phase, if_pos (usEnds_iff.mpr h), if_pos h.1, h.2]
    exact ⟨rfl, rfl⟩
  · rw [timer, phase, if_neg (fun e => notEnds (usEnds_iff.mp e)), if_pos h]
    have : s.biu.usPhase + 1 ≠ 40 := fun e => notEnds ⟨h, e⟩
    exact ⟨rfl, Nat.mod_eq_of_lt (by omega)⟩
  · rw [timer, phase, if_neg (fun e => h (usEnds_iff.mp e).1), if_neg h]
    exact ⟨rfl, rfl⟩
  · rw [pending, mem_roundDue, usEnds_iff, frameEnds_iff, or_assoc, or_assoc, and_assoc (c := c = .statusFrameEnd)]

end Sys2Proof.Machine
end

section
/-! SUPPORT. The clock of the dies, case by case (R112, R114 to R118), the bits on CBD and the profile port (R1 to R3, R11, R175), and
the scanner (R80, R81). -/

namespace Sys2Proof.Machine

variable {s : State}

/-! ### The clock of the dies -/

/-- A pass is in flight (R111). -/
def Ptu.plays (p : Ptu) : Prop := p.engine = .playing ∨ p.engine = .stopping

theorem dutTick_of_idle (idle : s.ptu.engine = .stopped ∨ s.ptu.engine = .static) : s.dutTick = (s, false) := by
  unfold State.dutTick
  refine if_neg (fun plays => ?_)
  obtain engine | engine := idle <;> simp [engine] at plays

theorem dutTick_of_noOverflow (plays : s.ptu.plays) (below : s.ptu.sum < 2 ^ 24) :
    s.dutTick = ({ s with ptu := { s.ptu with acc := BitVec.ofNat 24 s.ptu.sum } }, false) := by
  unfold State.dutTick
  exact (if_pos plays).trans (if_pos below)

theorem dutTick_of_high (plays : s.ptu.plays) (exceeds : 2 ^ 24 ≤ s.ptu.sum) (high : s.ptu.dclk = true) :
    s.dutTick = ({ s with ptu := { s.ptu.fall with acc := BitVec.ofNat 24 s.ptu.sum } }, false) := by
  unfold State.dutTick
  exact (if_pos plays).trans ((if_neg (Nat.not_lt.mpr exceeds)).trans (if_pos high))

theorem dutTick_of_low (plays : s.ptu.plays) (exceeds : 2 ^ 24 ≤ s.ptu.sum) (low : s.ptu.dclk = false) :
    s.dutTick = ({ s with ptu := { s.nextClock.getD s.ptu with acc := BitVec.ofNat 24 s.ptu.sum } },
      s.nextClock.isNone) := by
  unfold State.dutTick
  refine (if_pos plays).trans ((if_neg (Nat.not_lt.mpr exceeds)).trans ((if_neg (by simp [low])).trans ?_))
  cases s.nextClock <;> rfl

theorem Ptu.fall_of_still {p : Ptu} (still : p.strobe = false) : p.fall = { p with dclk := false } :=
  if_neg (by simp [still])

theorem Ptu.fall_of_strobe {p : Ptu} (strobe : p.strobe = true) : p.fall =
    { p with dclk := false, strobe := false, samples := p.samples + 1
             sigs := Vector.ofFn (fun i : Socket => feedSignature (Config.responseSample p.samples) i p.sigs[i]) } :=
  if_pos strobe

/-- The vector after a vector clock, and the clocks left of it (R114). -/
def Ptu.afterClock (p : Ptu) (vectors : List PatternVector) : Nat × Nat :=
  if p.clocksLeft ≠ 1 then (p.vector, p.clocksLeft - 1)
  else if p.vector < (p.loop.map (fun k => k.first + k.count - 1)).getD 0 then
    (p.vector + 1, ((vectors[p.vector + 1]?).map PatternVector.clocks).getD 0)
  else (p.vector, 0)

theorem nextClock_of_vector {v : PatternVector} (left : s.ptu.clocksLeft ≠ 0)
    (vector : s.prof.vectors[s.ptu.vector]? = some v) :
    s.nextClock = some { s.ptu.raise v.compare (polarised s.ptu.inverted v.drive) with
      vector := (s.ptu.afterClock s.prof.vectors).1, clocksLeft := (s.ptu.afterClock s.prof.vectors).2 } := by
  unfold State.nextClock Ptu.afterClock
  dsimp only
  rw [if_pos left, vector]
  by_cases one : s.ptu.clocksLeft = 1
  · dsimp only
    rw [if_pos one, if_neg (not_not.mpr one)]
    split_ifs <;> rfl
  · dsimp only
    rw [if_neg one, if_pos one]
    rfl

theorem nextClock_of_drain (vectors : s.ptu.clocksLeft = 0) (drain : s.ptu.drainLeft ≠ 0) :
    s.nextClock = some { s.ptu.raise false s.ptu.drv with drainLeft := s.ptu.drainLeft - 1 } := by
  unfold State.nextClock
  dsimp only
  rw [if_neg (not_not.mpr vectors), if_pos drain]

theorem nextClock_of_end (vectors : s.ptu.clocksLeft = 0) (drain : s.ptu.drainLeft = 0) : s.nextClock = none := by
  unfold State.nextClock
  dsimp only
  rw [if_neg (not_not.mpr vectors), if_neg (not_not.mpr drain)]

/-- A pass ends in a tick exactly as PASS_END joins the queue (R118). -/
theorem passEnd_mem_passTime (empty : s.pending = []) : .passEnd ∈ s.passTime.pending ↔ s.dutTick.2 = true := by
  rw [mem_passTime_pending empty, mem_roundDue]
  simp

/-- Settles O4: the engine after a tick is the one the clock of the dies leaves, in each of its cases. -/
theorem emptyQueueStepRunsTheClock : Obligations.EmptyQueueStepRunsTheClock := by
  intro s empty ending scan due load p sum acc
  rw [step_of_empty empty, tick_of_quiet ending scan due (State.not_loadEnds_fullMemory s load)]
  have mem := passEnd_mem_passTime empty
  obtain ⟨-, -, -, -, ptu, -⟩ := passTime_fields s
  refine ⟨s.passTime, rfl, fun idle => ?_, fun plays => ⟨fun below => ?_, fun exceeds high => ?_, fun exceeds low =>
    ⟨fun v left vector => ?_, fun vectors drain => ?_, fun vectors drain => ?_⟩⟩⟩
  · rw [mem, ptu, dutTick_of_idle idle]
    exact ⟨rfl, Bool.false_ne_true⟩
  · rw [mem, ptu, dutTick_of_noOverflow plays below]
    exact ⟨rfl, Bool.false_ne_true⟩
  · rw [mem, ptu, dutTick_of_high plays exceeds high]
    refine ⟨Bool.false_ne_true, fun still => ?_, fun strobe => ⟨?_, fun i => ?_⟩⟩
    · rw [Ptu.fall_of_still still]
      rfl
    · rw [Ptu.fall_of_strobe strobe]
      rfl
    · rw [Ptu.fall_of_strobe strobe]
      exact Vector.getElem_ofFn _
  · rw [mem, ptu, dutTick_of_low plays exceeds low, nextClock_of_vector left vector]
    refine ⟨Bool.false_ne_true, rfl, fun more => ?_, fun k one loop => ⟨fun inside => ?_, fun last => ?_⟩⟩
    · simp [Ptu.afterClock, show s.ptu.clocksLeft ≠ 1 from more]
      exact ⟨rfl, rfl⟩
    · have next : s.ptu.afterClock s.prof.vectors =
          (s.ptu.vector + 1, ((s.prof.vectors[s.ptu.vector + 1]?).map PatternVector.clocks).getD 0) := by
        simp [Ptu.afterClock, show s.ptu.clocksLeft = 1 from one, show s.ptu.loop = some k from loop,
          show s.ptu.vector < k.first + k.count - 1 from inside]
      rw [next]
      exact ⟨rfl, fun w found => by
        show ((s.prof.vectors[s.ptu.vector + 1]?).map PatternVector.clocks).getD 0 = w.clocks
        rw [found]; rfl⟩
    · have next : s.ptu.afterClock s.prof.vectors = (s.ptu.vector, 0) := by
        simp [Ptu.afterClock, show s.ptu.clocksLeft = 1 from one, show s.ptu.loop = some k from loop,
          show k.first + k.count - 1 ≤ s.ptu.vector from last]
      rw [next]
      exact ⟨rfl, rfl⟩
  · rw [mem, ptu, dutTick_of_low plays exceeds low, nextClock_of_drain vectors drain]
    exact ⟨Bool.false_ne_true, rfl⟩
  · rw [mem, ptu, dutTick_of_low plays exceeds low, nextClock_of_end vectors drain]
    exact ⟨rfl, rfl⟩

/-! ### Bytes on CBD -/

/-- Entry `n * k + j` of the levels of a list is entry `j` of its `k`-th member's, where each has `n`. -/
theorem getD_flatMap {α β : Type} (f : α → List β) (n : Nat) (hf : ∀ x, (f x).length = n) (l : List α) (k j : Nat) (x : α)
    (y : β) (hk : k < l.length) (hj : j < n) : (l.flatMap f).getD (n * k + j) y = (f (l.getD k x)).getD j y := by
  induction l generalizing k with
  | nil => exact absurd hk (Nat.not_lt_zero k)
  | cons a l ih =>
    rw [List.flatMap_cons]
    cases k with
    | zero => rw [Nat.mul_zero, Nat.zero_add, List.getD_append _ _ _ _ (by rw [hf]; exact hj)]; rfl
    | succ k =>
      have past : (f a).length ≤ n * (k + 1) + j := by rw [hf, Nat.mul_succ]; omega
      have index : n * (k + 1) + j - (f a).length = n * k + j := by rw [hf, Nat.mul_succ]; omega
      rw [List.getD_append_right _ _ _ _ past, index, ih k (Nat.lt_of_succ_lt_succ hk)]
      rfl

theorem wireByte_length (b : Byte) : (wireByte b).length = 10 := rfl

/-- The middle of a bit: its ticks counted out. -/
theorem bit_index (n width r : Nat) (h : r < width) : (n * width + r) / width = n := by
  rw [Nat.add_comm, Nat.add_mul_div_right _ _ (Nat.zero_lt_of_lt h), Nat.div_eq_of_lt h, Nat.zero_add]

theorem readWireByte_wireByte : ∀ b : Byte, readWireByte (wireByte b) = some b := by decide

theorem clockIn_eq : ∀ b : Byte, clockIn b = b := by decide

/-- A low stop bit is a framing error (R2). -/
theorem readWireByte_of_low_stop (levels : List Bool) (stop : levels[9]? = some false) : readWireByte levels = none := by
  unfold readWireByte
  split
  · simp at stop
  · rfl

theorem bitTicks_rate (s : State) :
    bitTicks s.rate = if s.ldr.straps.map Straps.rate = some true then 20 else 40 := by
  unfold bitTicks State.rate
  cases s.ldr.straps.map Straps.rate with
  | none => rfl
  | some rate => cases rate <;> rfl

theorem sends_iff : s.sends = true ↔ s.biu.tx = .sending ∨ s.biu.tx = .carriedOver := by
  simp [State.sends]

/-- The level on CBD at a bit of a frame being sent (R2, R3, R11). -/
theorem cbdLevel_of_bit (sends : s.sends = true) (k j r : Nat) (hk : k < s.biu.txFrame.length) (hj : j < 10)
    (hr : r < bitTicks s.rate) (clock : s.biu.txClock = 800 + (10 * k + j) * bitTicks s.rate + r) :
    s.cbdLevel = (wireByte (s.biu.txFrame.getD k 0)).getD j true := by
  have start : usTicks Config.markPulseUs = 800 := rfl
  have index : (s.biu.txClock - 800) / bitTicks s.rate = 10 * k + j := by
    have : s.biu.txClock - 800 = (10 * k + j) * bitTicks s.rate + r := by omega
    rw [this, bit_index _ _ _ hr]
  unfold State.cbdLevel
  rw [start, if_pos ⟨sends, by omega⟩, index, getD_flatMap wireByte 10 wireByte_length _ _ _ 0 _ hk hj]

theorem portBits_getD (b : Byte) (j : Nat) (h : j < 8) :
    ([7, 6, 5, 4, 3, 2, 1, 0].map b.getLsbD).getD j false = b.getLsbD (7 - j) := by
  match j, h with
  | 0, _ | 1, _ | 2, _ | 3, _ | 4, _ | 5, _ | 6, _ | 7, _ => rfl

/-- The port's data output at a bit of the request (R175). -/
theorem portDataLine_of_bit (selected : s.ldr.portSelect = true) (k j r : Nat) (hk : k < s.ldr.portSent.length)
    (hj : j < 8) (hr : r < 4) (clock : s.ldr.portClock = 4 * (8 * k + j) + r) :
    s.portDataLine = (s.ldr.portSent.getD k 0).getLsbD (7 - j) := by
  have index : s.ldr.portClock / 4 = 8 * k + j := by omega
  unfold State.portDataLine
  rw [selected, Bool.true_and, index,
    getD_flatMap (fun b : Byte => [7, 6, 5, 4, 3, 2, 1, 0].map b.getLsbD) 8 (fun _ => rfl) _ _ _ 0 _ hk hj]
  exact portBits_getD _ j hj

/-- Settles O5: the byte on the wire and back, the own frame's levels bit by bit, and the port's. -/
theorem linesCarryTheBits : Obligations.LinesCarryTheBits := by
  refine ⟨fun b => ⟨wireByte_length b, rfl, rfl, fun k hk => ?_, readWireByte_wireByte b, clockIn_eq b⟩,
    readWireByte_of_low_stop, fun s => ⟨bitTicks_rate s, ?_, fun h1 h2 => ?_, fun sending => ⟨sends_iff.mpr sending,
      fun early => ?_, cbdLevel_of_bit (sends_iff.mpr sending)⟩⟩, fun s => ⟨rfl, fun released => ?_, fun selected => ⟨?_,
      portDataLine_of_bit selected⟩⟩, fun memory n i hi => ?_⟩
  · match k, hk with
    | 0, _ | 1, _ | 2, _ | 3, _ | 4, _ | 5, _ | 6, _ | 7, _ => rfl
  · show 800 + s.biu.txFrame.length * 10 * bitTicks s.rate = _
    ring
  · have silent : s.sends = false := by simp [State.sends, h1, h2]
    exact ⟨silent, by simp [State.cbdLevel, silent]⟩
  · have start : usTicks Config.markPulseUs = 800 := rfl
    unfold State.cbdLevel
    exact if_neg (fun h => by have := h.2; omega)
  · simp [State.portClockLine, State.portDataLine, released]
  · simp [State.portClockLine, selected]
  · rw [readMemory_getElem? memory hi, clockIn_eq]

/-! ### The scanner -/

theorem slotInput_of_current (c : Scanner) (i : Socket) : c.slotInput i.val = some (.current i) := dif_pos i.isLt

/-- The slots after the fast list convert the channels of a scan (R81). -/
theorem slotInput_of_temperature (c : Scanner) {slot : Nat} (h : 21 ≤ slot) :
    (∀ i : Socket, c.scan ≠ none → c.channel = i.val → c.slotInput slot = some (.temperature i)) ∧
    (c.scan = none ∨ 16 ≤ c.channel → c.slotInput slot = none) := by
  have rest : c.slotInput slot = if h : c.scan ≠ none ∧ c.channel < 16 then some (.temperature ⟨c.channel, h.2⟩) else none := by
    unfold Scanner.slotInput
    rw [dif_neg (by omega), if_neg (by omega), if_neg (by omega), if_neg (by omega), if_neg (by omega), if_neg (by omega)]
  rw [rest]
  refine ⟨fun i scan channel => ?_, fun none => dif_neg (fun both => ?_)⟩
  · rw [dif_pos ⟨scan, by omega⟩]
    exact congrArg (fun j => some (ScanInput.temperature j)) (Fin.ext channel)
  · obtain scan | channel := none
    · exact both.1 scan
    · omega

theorem advance_eq (c : Scanner) : c.advance =
    { c with converting := if c.place % 800 = 0 then c.slotInput (c.place / 800) else c.converting
             place := (c.place + 1) % 40000 } := rfl

/-- A reading of an input whose conversion does not end at this instant changes nothing. -/
theorem handOver_of_ne {input : ScanInput} (user : State → State) (h : s.ending ≠ some input) :
    s.handOver input user = s := if_neg h

/-- Settles O6: the slots of the frame, and the readings out of their turn. -/
theorem scannerConvertsInOrder : Obligations.ScannerConvertsInOrder := by
  refine ⟨fun c => ⟨slotInput_of_current c, rfl, rfl, rfl, rfl, rfl, fun slot => slotInput_of_temperature c,
    fun slot inFrame start => ?_, fun inside last => ?_, fun last => ?_⟩, fun s => ⟨State.ending_iff,
    fun i v other => ?_, fun r v other => ?_, fun v other => ?_, fun v other => ?_, fun i v other => ?_, fun none => ?_⟩⟩
  · rw [advance_eq, start, if_pos (Nat.mul_mod_right 800 slot), Nat.mul_div_cancel_left slot (by decide),
      Nat.mod_eq_of_lt (by omega)]
  · rw [advance_eq, if_neg inside, Nat.mod_eq_of_lt last]
  · rw [advance_eq, last]
    rfl
  · exact congrArg Host.Outcome.next (handOver_of_ne _ other)
  · exact congrArg Host.Outcome.next (handOver_of_ne _ other)
  · exact congrArg Host.Outcome.next (handOver_of_ne _ other)
  · exact congrArg Host.Outcome.next (handOver_of_ne _ other)
  · exact congrArg Host.Outcome.next (handOver_of_ne _ other)
  · refine congrArg Host.Outcome.next (if_neg (fun ends => ?_))
    obtain scan | channel := none
    · simp [State.scanEnds, scan] at ends
    · simp [State.scanEnds, channel] at ends

end Sys2Proof.Machine
end

section
/-! SUPPORT. Pin reset, the straps and the profile load: the values after reset, what the load keeps of the straps, and what the
ranges and the cross-checks of a profile say (R173 to R180). -/

namespace Sys2Proof.Machine

/-! ### The values after reset -/

theorem reset_peers (k : Station) : State.reset.biu.peers[k] = Peer.blank := by
  simp [State.reset, Biu.initial]

theorem reset_rails (r : Rail) : State.reset.rlu.rails[r.ix] = RailUnit.initial := by
  simp [State.reset, Rlu.initial]

theorem reset_sockets (i : Socket) : State.reset.rlu.sockets[i] = SocketPower.initial := by
  simp [State.reset, Rlu.initial]

theorem reset_heaters (i : Socket) : State.reset.thu.heaters[i] = Heater.initial := by
  simp [State.reset, Thu.initial]

theorem reset_records (i : Socket) : State.reset.acu.records[i] = SocketRecord.initial := by
  simp [State.reset, Acu.initial]

theorem reset_members (i : Socket) : State.reset.ptu.sigs[i] = 0xFFFF ∧ State.reset.ptu.members[i] = false := by
  simp [State.reset, Ptu.initial]

/-- No plan entry is held. -/
theorem reset_entry (p : Nat) : State.reset.rcu.entry p = none := by
  show (Vector.replicate 12 (none : Option PlanEntry)).toList.getD p none = none
  rw [Vector.toList_replicate, List.getD_eq_getElem?_getD, List.getElem?_replicate]
  split <;> rfl

/-- Settles O7: block by block. -/
theorem resetHoldsTheStatedValues : Obligations.ResetHoldsTheStatedValues := by
  refine ⟨rfl, rfl, rfl, reset_entry, rfl, rfl, rfl, rfl, rfl, rfl, rfl, rfl, rfl, rfl, rfl, rfl, rfl, rfl, fun k => ?_, rfl,
    rfl, rfl, rfl, fun r => ?_, fun i => ?_, rfl, rfl, rfl, rfl, rfl, fun i => ?_, rfl, rfl, rfl, rfl, rfl, rfl, rfl, rfl,
    reset_members, rfl, reset_records, rfl, rfl, rfl, rfl, rfl, rfl, rfl, rfl⟩
  · intro e
    have blank : e = Peer.blank := reset_peers k
    rw [blank]
    decide
  · rw [State.railState, reset_rails]
    decide
  · rw [reset_sockets]
    decide
  · rw [reset_heaters]
    decide

/-- Settles O8: pin reset leaves the state of reset, where no line is driven. -/
theorem pinResetMakesEveryLineInactive : Obligations.PinResetMakesEveryLineInactive := by
  refine fun s => ⟨rfl, fun t next => ?_⟩
  cases next
  refine ⟨rfl, rfl, rfl, fun r => ?_, fun i => ⟨?_, ?_⟩, rfl, rfl, rfl, ?_, rfl, rfl⟩
  · have rail : s.pinReset.rlu.rails[r.ix] = RailUnit.initial := reset_rails r
    simp [State.railEnable, State.railLevelLine, State.railState, rail, RailUnit.initial]
  · exact congrArg SocketPower.closed (reset_sockets i)
  · exact congrArg (fun h : Heater => h.phase == .on) (reset_heaters i)
  · have off : ∀ i : Socket, s.pinReset.socketState i = .off := fun i => congrArg SocketRecord.state (reset_records i)
    simp [State.failLine, off]

/-! ### The straps -/

theorem sameLoad_refl (s : State) : s.sameLoad s := ⟨rfl, rfl, rfl⟩

theorem sameLoad_of_ldr_eq {s t : State} (ldr : t.ldr = s.ldr) : s.sameLoad t := by
  rw [State.sameLoad, ldr]
  exact ⟨rfl, rfl, rfl⟩

theorem clearStation_ldr (s : State) : s.clearStation.ldr = s.ldr := by
  simp only [State.clearStation, State.mapHeaters_ldr, State.mapRecords_ldr]

theorem takeClear_ldr (s : State) : s.takeClear.ldr = s.ldr := by
  unfold State.takeClear State.judged
  split
  · rfl
  · split
    · rfl
    · exact clearStation_ldr s

theorem sameLoad_takeCommand (s : State) (broadcast : Bool) (code : Byte) (args : List Byte) :
    s.sameLoad (s.takeCommand broadcast code args) := by
  obtain refused | clear | ⟨range, other⟩ := takeCommand_cases s broadcast code args
  · rw [refused]; exact (keeps_refuseForm s code).load
  · rw [clear]; exact sameLoad_of_ldr_eq (takeClear_ldr s)
  · rw [other]; exact (keeps_dispatchCommand s _ args range).load

theorem sameLoad_hearFrame (s : State) (slot : Slot) (bytes : List Byte) : s.sameLoad (s.hearFrame slot bytes) := by
  have same := sameLoad_refl s
  unfold State.hearFrame
  split_ifs
  · exact same
  · exact sameLoad_of_ldr_eq rfl
  · exact same
  · exact same
  · exact same
  · split
    · unfold State.hearCommand
      split
      · exact same
      · next f _ =>
        dsimp only
        split_ifs
        · exact sameLoad_takeCommand (s.storeCommand slot f.round) _ _ _
        · exact sameLoad_of_ldr_eq rfl
    · exact (keeps_hearStatus s _ bytes).load

theorem enterMuted_ldr (s : State) (cause : MuteCause) : (s.enterMuted cause).ldr = s.ldr := by
  have abandoned : s.abandon.ldr = s.ldr := by unfold State.abandon; split <;> rfl
  simp only [State.enterMuted, State.stopSchedule, State.mapHeaters_ldr, State.stopScanner, abandoned]

/-- The end of a load keeps the straps. -/
theorem endLoad_straps (s : State) (memory : List Byte) : (s.endLoad memory).ldr.straps = s.ldr.straps := by
  unfold State.endLoad
  split_ifs
  · split
    · rfl
    · next p image _ =>
      dsimp only
      split_ifs
      · rfl
      · rw [enterMuted_ldr]
        rfl
  · rfl

/-- Outside LOADING the end of a load changes nothing. -/
theorem endLoad_of_ne (s : State) (memory : List Byte) (h : s.rcu.state ≠ .loading) : s.endLoad memory = s := by
  unfold State.endLoad
  exact if_neg (fun ends => h ((State.loadEnds_iff s memory).mp ends).1)

/-- After reset no row but pin reset moves the straps, and after the load none moves what was loaded. -/
theorem exec_load {s t : State} {c : Instr} (state : s.rcu.state ≠ .reset) (reset : c ≠ .pinReset)
    (next : exec c s = .next t) : t.ldr.straps = s.ldr.straps ∧ (s.rcu.state ≠ .loading → s.sameLoad t) := by
  have of_load : s.sameLoad t → t.ldr.straps = s.ldr.straps ∧ (s.rcu.state ≠ .loading → s.sameLoad t) :=
    fun load => ⟨load.1, fun _ => load⟩
  cases c with
  | pinReset => exact absurd rfl reset
  | resetRelease slot rate =>
    cases next
    exact of_load (by rw [State.releaseReset, if_neg state]; exact sameLoad_refl s)
  | profileLoadEnd memory =>
    cases next
    exact ⟨endLoad_straps s memory, fun loaded => by rw [endLoad_of_ne s memory loaded]; exact sameLoad_refl s⟩
  | frameReceived slot bytes => cases next; exact of_load (sameLoad_hearFrame s slot bytes)
  | cmdClear => cases next; exact of_load (sameLoad_of_ldr_eq (takeClear_ldr s))
  | _ => exact of_load (exec_keeps _ s t rfl next).load

/-- Settles O9: the latching, and every step after it. -/
theorem strapsAreLatchedAndKept : Obligations.StrapsAreLatchedAndKept := by
  refine ⟨fun s slot rate state => ?_, fun s t state reset next => ?_⟩
  · exact congrArg Host.Outcome.next (if_pos state)
  · obtain ⟨-, rfl⟩ | ⟨c, rest, queue, row⟩ := step_cases next
    · exact ⟨(keeps_tick s).load.1, fun _ => (keeps_tick s).load⟩
    · exact exec_load (s := { s with pending := rest }) state (reset c (by rw [queue]; rfl)) row

/-! ### The ranges and the cross-checks -/

theorem within_iff (lo n hi : Nat) : within lo n hi = true ↔ lo ≤ n ∧ n ≤ hi := by
  simp [within]

/-- What holds of every member of a vector holds place by place. -/
theorem forall_mem_toList {α : Type} {n : Nat} (v : Vector α n) (P : α → Prop) :
    (∀ x ∈ v.toList, P x) ↔ ∀ i : Fin n, P v[i] := by
  constructor
  · exact fun h i => h _ (by simp)
  · intro h x member
    obtain ⟨k, hk, rfl⟩ := List.mem_iff_getElem.mp member
    exact h ⟨k, by simpa using hk⟩

theorem allWithin_iff (lo : Nat) (v : Vector Nat 4) (hi : Nat) :
    allWithin lo v hi = true ↔ ∀ l : Fin 4, lo ≤ v[l] ∧ v[l] ≤ hi := by
  simp only [allWithin, List.all_eq_true, forall_mem_toList, within_iff]

/-- Four values rise exactly when they rise from each level to the next (R178). -/
theorem rising_iff (v : Vector Nat 4) : rising v = true ↔ ∀ l m : Fin 4, l ≤ m → v[l] ≤ v[m] := by
  have steps := Fin.monotone_iff_le_succ (f := fun l : Fin 4 => v[l])
  have three : (∀ i : Fin 3, v[i.castSucc] ≤ v[i.succ]) ↔ v[0] ≤ v[1] ∧ v[1] ≤ v[2] ∧ v[2] ≤ v[3] := by
    simp only [Fin.forall_fin_succ, IsEmpty.forall_iff, and_true]
    rfl
  rw [rising]
  simp only [Bool.and_eq_true, decide_eq_true_eq, and_assoc]
  exact three.symm.trans (steps.symm.trans ⟨fun mono l m le => mono le, fun h l m le => h l m le⟩)

/-- The ranges of R176 and R177. -/
theorem inRange_iff (p : Profile) : p.inRange = true ↔
    (10 ≤ p.budget ∧ p.budget ≤ 60000) ∧ (13 ≤ p.period ∧ p.period ≤ 100) ∧
    (2 ≤ p.lostThreshold ∧ p.lostThreshold ≤ 8) ∧ (2 ≤ p.joinWait ∧ p.joinWait ≤ 16) ∧
    (∀ (r : Fin 3) (l : Fin 4), 100 ≤ p.levels[r][l] ∧ p.levels[r][l] ≤ 15000) ∧
    (1 ≤ p.tolerance ∧ p.tolerance ≤ 1000) ∧ (∀ r : Fin 3, 1 ≤ p.railSettle[r] ∧ p.railSettle[r] ≤ 255) ∧
    (1 ≤ p.socketSettle ∧ p.socketSettle ≤ 100) ∧ (∀ l : Fin 4, 1 ≤ p.base[l] ∧ p.base[l] ≤ 60000) ∧
    (∀ l : Fin 4, 1 ≤ p.allowance[l] ∧ p.allowance[l] ≤ 30000) ∧ p.openFloor ≤ 30000 ∧
    (1 ≤ p.tripDebounce ∧ p.tripDebounce ≤ 15) ∧ p.retryLimit ≤ 3 ∧ (1 ≤ p.retryWait ∧ p.retryWait ≤ 255) ∧
    p.interruptionLimit ≤ 7 ∧ (1 ≤ p.recoveryWait ∧ p.recoveryWait ≤ 255) ∧
    (1 ≤ p.bulkThreshold ∧ p.bulkThreshold ≤ 65535) ∧ (1 ≤ p.nominal ∧ p.nominal ≤ 60000) ∧
    (10 ≤ p.heaterPeriod ∧ p.heaterPeriod ≤ 2000) ∧ (1 ≤ p.heaterStep ∧ p.heaterStep ≤ p.heaterPeriod) ∧
    (1 ≤ p.maxTokens ∧ p.maxTokens ≤ 16) ∧ (1 ≤ p.tripMargin ∧ p.tripMargin ≤ 50) ∧
    (1 ≤ p.functionalThreshold ∧ p.functionalThreshold ≤ 15) ∧ p.reentry ≤ 3 ∧
    ∀ k ∈ p.loops, 1 ≤ k.count ∧ k.latency ≤ 7 := by
  simp only [Profile.inRange, Bool.and_eq_true, within_iff, forall_mem_toList, allWithin_iff, decide_eq_true_eq,
    List.all_eq_true, and_assoc]

/-- The cross-checks of R178. -/
theorem crossChecks_iff (p : Profile) (rate : Bool) : p.crossChecks rate = true ↔
    (rate = true ∨ 24 ≤ p.period) ∧ (∀ l : Fin 4, p.base[l] ≤ p.budget) ∧ (∀ l : Fin 4, p.allowance[l] ≤ p.budget) ∧
    p.nominal ≤ p.budget ∧
    (p.base[3] - p.base[0]) + (p.allowance[3] - p.allowance[0]) * enabledCount p.enableMask ≤ p.budget ∧
    (∀ l m : Fin 4, l ≤ m → p.base[l] ≤ p.base[m]) ∧ (∀ l m : Fin 4, l ≤ m → p.allowance[l] ≤ p.allowance[m]) ∧
    (∀ (r : Fin 3) (l : Fin 4), p.tolerance < p.levels[r][l]) ∧ p.openFloor < p.allowance[0] ∧
    ∀ k ∈ p.loops, k.first + k.count ≤ p.vectors.length := by
  simp only [Profile.crossChecks, Bool.and_eq_true, Bool.or_eq_true, forall_mem_toList, rising_iff, decide_eq_true_eq,
    List.all_eq_true, and_assoc]

/-- No count in range gives a length above 12 440 (R187). -/
theorem judgeProfile_of_length (rate : Bool) (memory : List Byte)
    (h : u16At (readMemory memory 5) 0 < 80 ∨ 12440 < u16At (readMemory memory 5) 0) : judgeProfile rate memory = none := by
  rw [Option.eq_none_iff_forall_ne_some]
  rintro ⟨p, image⟩ judged
  obtain ⟨least, -, -, -, -, loops, vectors, length, -⟩ := (judgeProfile_iff rate memory image p).mp judged
  unfold imageLength at length
  omega

/-- A vector that an image spells repeats 1 to 256 clocks (R187). -/
theorem spelledBy_clocks {p : Profile} {image : List Byte} (spelled : p.spelledBy image) (v : PatternVector)
    (member : v ∈ p.vectors) : 1 ≤ v.clocks ∧ v.clocks ≤ 256 := by
  obtain ⟨k, found⟩ := List.getElem?_of_mem member
  obtain ⟨-, -, -, -, -, -, -, -, -, -, -, -, -, -, -, -, -, -, -, -, -, -, -, -, -, -, -, -, vectors⟩ := spelled
  obtain ⟨-, -, clocks⟩ := vectors k v found
  have := byteAt_lt image (78 + 9 * byteAt image 2 + 3 * k + 2)
  omega

/-- The flag bytes stand three apart behind the loops (R187, R188). -/
theorem vectorFlagsOk_drop (n o : Nat) (image : List Byte) :
    vectorFlagsOk n (image.drop o) = true ↔ ∀ k, k < n → byteAt image (o + 3 * k + 1) < 2 := by
  rw [vectorFlagsOk_iff]
  simp only [byteAt_drop, Nat.add_assoc]

/-- All that an accepted profile satisfies, and that suffices (R175 to R178, R187, R188). -/
theorem judgeProfile_some (rate : Bool) (memory image : List Byte) (p : Profile) :
    judgeProfile rate memory = some (p, image) ↔
    80 ≤ u16At (readMemory memory 5) 0 ∧ u16At (readMemory memory 5) 0 ≤ 16384 ∧
    image = readMemory memory (u16At (readMemory memory 5) 0) ∧ p.spelledBy image ∧
    (∀ k, k < p.vectors.length → byteAt image (78 + 9 * p.loops.length + 3 * k + 1) < 2) ∧
    image.length = u16At image 0 ∧ image.length = 80 + 9 * p.loops.length + 3 * p.vectors.length ∧
    p.loops.length ≤ 8 ∧ p.vectors.length ≤ 4096 ∧
    (crc (image.take (image.length - 2))).toNat = u16At image (image.length - 2) ∧
    p.inRange = true ∧ p.crossChecks rate = true := by
  rw [judgeProfile_iff]
  dsimp only
  generalize header : u16At (readMemory memory 5) 0 = length
  constructor
  · rintro ⟨least, most, rfl, spelled, check, loops, vectors, counts, flags, ranges, cross⟩
    have size := readMemory_length memory length
    refine ⟨least, most, rfl, spelled, (vectorFlagsOk_drop _ _ _).mp flags, ?_, ?_, loops, vectors, ?_, ranges, cross⟩
    · rw [size, ← header]; exact readMemory_u16At memory (by omega) (by omega)
    · rw [size]; exact counts
    · rw [size]; exact check
  · rintro ⟨least, most, rfl, spelled, flags, -, counts, loops, vectors, check, ranges, cross⟩
    rw [readMemory_length] at counts check
    exact ⟨least, most, rfl, spelled, check, loops, vectors, counts, (vectorFlagsOk_drop _ _ _).mpr flags, ranges, cross⟩

/-! ### The end of a load -/

theorem endLoad_of_ends {s : State} {memory : List Byte} (ends : s.loadEnds memory = true) :
    s.endLoad memory = match judgeProfile s.rate memory with
      | none => s.failLoad
      | some (p, image) =>
        if 2 ≤ (s.handOnProfile p image).slot.val then (s.handOnProfile p image).enterListen
        else (s.handOnProfile p image).enterMuted .strap := by
  unfold State.endLoad
  exact if_pos ends

/-- An abandon request moves the engine and the station gate alone. -/
theorem abandon_frame (s : State) : s.abandon =
    { s with ptu := s.abandon.ptu, acu := { s.acu with stationGate := s.abandon.acu.stationGate } } := by
  unfold State.abandon
  split <;> rfl

/-- A stopped engine drives what it drove, any other the idle value (R111, R125). -/
theorem abandon_drv (s : State) : s.abandon.ptu.drv = if s.ptu.engine = .stopped then s.ptu.drv else s.prof.idleDrive := by
  unfold State.abandon
  split <;> rfl

/-- What the entry into MUTED leaves, and what it writes (R24). -/
theorem enterMuted_frame (s : State) (cause : MuteCause) : s.enterMuted cause =
    { s with
      rcu := { s.rcu with state := .muted, muteCause := some cause, sub := none, remembered := none, transit := none
                          startPending := false, advance := none }
      biu := { s.biu with tx := .notSent, cbmPulse := 0 }
      scanner := { Scanner.initial with conversions := s.scanner.conversions }
      thu := { s.thu with heaters := Vector.ofFn (fun i : Socket => stopHeater s.thu.heaters[i]), waitQueue := [], anchor := none }
      ptu := s.abandon.ptu, acu := { s.acu with stationGate := s.abandon.acu.stationGate } } := by
  have frame := abandon_frame s
  unfold State.enterMuted
  generalize s.abandon = t at frame ⊢
  rw [frame]
  simp only [State.stopSchedule, State.mapHeaters, State.stopScanner]

/-- What the parameters handed on leave, and what they write (R132, R179, R180). -/
theorem handOnProfile_frame (s : State) (p : Profile) (image : List Byte) : s.handOnProfile p image =
    { s with
      ldr := { s.ldr with profile := some p, image := image, rackCode := rackCodeOf image, portSelect := false }
      ptu := { s.ptu with drv := p.idleDrive }
      acu := { s.acu with records := (s.handOnProfile p image).acu.records } } := by
  simp only [State.handOnProfile, State.mapRecords]

theorem enterMuted_rcu (s : State) (cause : MuteCause) : (s.enterMuted cause).rcu =
    { s.rcu with state := .muted, muteCause := some cause, sub := none, remembered := none, transit := none
                 startPending := false, advance := none } := by
  simp only [State.enterMuted, State.stopSchedule, State.mapHeaters_rcu, State.stopScanner, abandon_rcu]

/-- A load that ends leaves LOADING with the select released (R175, R180). -/
theorem endLoad_leaves {s : State} {memory : List Byte} (ends : s.loadEnds memory = true) :
    (s.endLoad memory).rcu.state ≠ .loading ∧ (s.endLoad memory).ldr.portSelect = false := by
  rw [endLoad_of_ends ends]
  split
  · exact ⟨by simp [State.failLoad], rfl⟩
  · split_ifs
    · exact ⟨by simp [State.enterListen], rfl⟩
    · rw [enterMuted_rcu, enterMuted_ldr]
      exact ⟨by simp, rfl⟩

/-- Settles O10: the instant and the outcome of a load, and what an accepted profile satisfies. -/
theorem badProfileEndsInLoadfail : Obligations.BadProfileEndsInLoadfail := by
  refine ⟨fun s memory => ⟨fun loading clock => ?_, fun other => ?_⟩, judgeProfile_of_length,
    fun rate memory image p => ?_⟩
  · have ends : s.loadEnds memory = true := (State.loadEnds_iff s memory).mpr ⟨loading, clock⟩
    have failed : judgeProfile s.rate memory = none → s.endLoad memory = s.failLoad := fun bad => by
      rw [endLoad_of_ends ends, bad]
    obtain ⟨left, released⟩ := endLoad_leaves ends
    refine ⟨fun bad => congrArg Host.Outcome.next (failed bad), s.endLoad memory, rfl, left, released, ?_, fun bad => ?_⟩
    · simp [State.portClockLine, released]
    · rw [failed bad]; rfl
  · refine congrArg Host.Outcome.next (if_neg (fun ends => ?_))
    obtain ⟨loading, clock⟩ := (State.loadEnds_iff s memory).mp ends
    obtain state | instant := other
    · exact state loading
    · exact instant clock
  · intro length
    rw [judgeProfile_some, inRange_iff, crossChecks_iff]
    constructor
    · rintro ⟨least, most, read, spelled, flags, size, counts, loops, vectors, check,
        ⟨⟨b1, b2⟩, ⟨p1, p2⟩, ⟨l1, l2⟩, ⟨j1, j2⟩, levels, ⟨t1, t2⟩, settle, ⟨s1, s2⟩, base, allowance, floor, ⟨d1, d2⟩,
          retries, ⟨w1, w2⟩, interruptions, ⟨r1, r2⟩, ⟨k1, k2⟩, ⟨n1, n2⟩, ⟨h1, h2⟩, ⟨e1, e2⟩, ⟨m1, m2⟩, ⟨g1, g2⟩,
          ⟨f1, f2⟩, reentry, eachLoop⟩,
        fast, baseFits, allowanceFits, nominalFits, span, baseRises, allowanceRises, tolerance, openFloor, inVectors⟩
      exact ⟨least, most, read, spelled, flags, size, counts, loops, vectors, check, b1, b2, p1, p2,
        fun slow => fast.resolve_left (by simp [slow]), l1, l2, j1, j2,
        fun r l => ⟨(levels r l).1, (levels r l).2, tolerance r l⟩, t1, t2, settle, s1, s2,
        fun l => ⟨(base l).1, (base l).2, (allowance l).1, (allowance l).2⟩, floor, d1, d2, retries, w1, w2, interruptions,
        r1, r2, k1, k2, n1, n2, h1, h2, e1, e2, m1, m2, g1, g2, f1, f2, reentry,
        fun k member => ⟨(eachLoop k member).1, (eachLoop k member).2, inVectors k member⟩, spelledBy_clocks spelled,
        fun l => ⟨baseFits l, allowanceFits l⟩, nominalFits, span,
        fun l m le => ⟨baseRises l m le, allowanceRises l m le⟩, openFloor⟩
    · rintro ⟨least, most, read, spelled, flags, size, counts, loops, vectors, check, b1, b2, p1, p2, fast, l1, l2, j1, j2,
        levels, t1, t2, settle, s1, s2, amounts, floor, d1, d2, retries, w1, w2, interruptions, r1, r2, k1, k2, n1, n2, h1,
        h2, e1, e2, m1, m2, g1, g2, f1, f2, reentry, eachLoop, -, fits, nominalFits, span, rises, openFloor⟩
      refine ⟨least, most, read, spelled, flags, size, counts, loops, vectors, check,
        ⟨⟨b1, b2⟩, ⟨p1, p2⟩, ⟨l1, l2⟩, ⟨j1, j2⟩, fun r l => ⟨(levels r l).1, (levels r l).2.1⟩, ⟨t1, t2⟩, settle, ⟨s1, s2⟩,
          fun l => ⟨(amounts l).1, (amounts l).2.1⟩, fun l => (amounts l).2.2, floor, ⟨d1, d2⟩,
          retries, ⟨w1, w2⟩, interruptions, ⟨r1, r2⟩, ⟨k1, k2⟩, ⟨n1, n2⟩, ⟨h1, h2⟩, ⟨e1, e2⟩, ⟨m1, m2⟩, ⟨g1, g2⟩,
          ⟨f1, f2⟩, reentry, fun k member => ⟨(eachLoop k member).1, (eachLoop k member).2.1⟩⟩,
        ?_, fun l => (fits l).1, fun l => (fits l).2, nominalFits, span, fun l m le => (rises l m le).1,
        fun l m le => (rises l m le).2, fun r l => (levels r l).2.2, openFloor, fun k member => (eachLoop k member).2.2⟩
      cases rate
      · exact .inr (fast rfl)
      · exact .inl rfl

/-- Settles O11: the parameters handed on, then LISTEN or MUTED by the slot. -/
theorem goodLoadEntersListenOrMuted : Obligations.GoodLoadEntersListenOrMuted := by
  intro s memory image straps p loading latched judged clock
  have bytes : image.length = bytesRead memory := by
    obtain ⟨least, most, read, -⟩ := (judgeProfile_some straps.rate memory image p).mp judged
    have inBounds : ¬(u16At (readMemory memory 5) 0 < 80 ∨ Config.imageCap < u16At (readMemory memory 5) 0) := by
      show ¬(_ ∨ 16384 < _)
      omega
    rw [read, readMemory_length, bytesRead]
    exact (if_neg inBounds).symm
  have ends : s.loadEnds memory = true := (State.loadEnds_iff s memory).mpr ⟨loading, by rw [clock, bytes]⟩
  have rate : s.rate = straps.rate := by rw [State.rate, latched]; rfl
  have slot : (s.handOnProfile p image).slot = straps.slot := by
    show (s.ldr.straps.map Straps.slot).getD 0 = _
    rw [latched]; rfl
  have records : ∀ i : Socket, (s.handOnProfile p image).acu.records[i] =
      if p.enableMask.getLsbD i.val then s.acu.records[i]
      else { s.acu.records[i] with state := .excluded, source := some .profile } :=
    fun i => by simp only [State.handOnProfile, State.mapRecords_records]
  have loaded := endLoad_of_ends ends
  rw [rate, judged] at loaded
  dsimp only at loaded
  rw [slot] at loaded
  refine ⟨s.endLoad memory, rfl, ?_⟩
  rw [loaded]
  have frame := handOnProfile_frame s p image
  generalize s.handOnProfile p image = u at frame records ⊢
  have handed : u.ldr.profile = some p := by rw [frame]
  by_cases low : 2 ≤ straps.slot.val
  · rw [if_pos low]
    have prof : u.prof = p := by rw [State.prof, handed]; rfl
    have peers : ∀ k : Station, u.enterListen.biu.peers[k] = Peer.blank := fun k => by simp [State.enterListen]
    have timer : u.enterListen.biu.roundTimer = 2 * p.period * 1000 := by simp only [State.enterListen, prof]
    refine ⟨handed, ?_, ?_, ?_, ?_, ?_, ?_, ?_, records, fun _ => ⟨rfl, rfl, timer, peers⟩, fun high => by omega⟩ <;>
      simp only [State.enterListen] <;> rw [frame]
    rfl
  · rw [if_neg low, enterMuted_frame]
    refine ⟨handed, ?_, ?_, ?_, ?_, ?_, ?_, ?_, records, fun high => absurd high low, fun _ => ⟨rfl, rfl, rfl⟩⟩
    · rw [frame]; rfl
    · rw [frame]
    · rw [frame]
    · show u.abandon.ptu.drv = _
      rw [abandon_drv, State.prof, handed, frame]
      exact ite_self _
    · rw [frame]
    · rw [frame]
    · rw [frame]

end Sys2Proof.Machine
end

section
/-! SUPPORT. What the work of the blocks at a mark leaves: the BIU, the scanner, the loader, the lines from outside and the
command report, with each socket's exposure, and once the join wait is over its credits up to the phase reached (R7, R94, R137,
R146, R163). -/

namespace Sys2Proof.Machine

-- The proofs of this section open the same definitions, and each waits for the first to do so: one after another they need no
-- thread apiece.
set_option Elab.async false

/-- The station is past the states from which a run may yet start. -/
def State.pastIdle (s : State) : Prop := s.rcu.state ≠ .idle ∧ s.rcu.state ≠ .listen

/-- Exposures are left, and past IDLE credits only gain entries. -/
structure LeavesCredit (s t : State) : Prop where
  exposure : ∀ i : Socket, t.acu.records[i].exposure = s.acu.records[i].exposure
  past : s.pastIdle → t.pastIdle
  credit : s.pastIdle → ∀ i : Socket, s.acu.records[i].credit <+: t.acu.records[i].credit

/-- The relation of the module. -/
structure Leaves (s t : State) : Prop extends LeavesCredit s t where
  biu : t.biu = s.biu
  scanner : t.scanner = s.scanner
  ldr : t.ldr = s.ldr
  door : t.door = s.door
  pending : t.pending = s.pending
  reportCode : t.acu.reportCode = s.acu.reportCode
  reportResult : t.acu.reportResult = s.acu.reportResult
  readDue : t.acu.readDue = s.acu.readDue
  scanWarm : t.thu.markScanWarm = s.thu.markScanWarm

section
variable {s t u : State}

theorem LeavesCredit.refl (s : State) : LeavesCredit s s := ⟨fun _ => rfl, id, fun _ _ => List.prefix_rfl⟩

theorem LeavesCredit.trans (a : LeavesCredit s t) (b : LeavesCredit t u) : LeavesCredit s u where
  exposure i := (b.exposure i).trans (a.exposure i)
  past h := b.past (a.past h)
  credit h i := (a.credit h i).trans (b.credit (a.past h) i)

/-- An operation that leaves the records. -/
theorem LeavesCredit.same (hr : t.acu.records = s.acu.records) (hp : s.pastIdle → t.pastIdle) : LeavesCredit s t where
  exposure i := by rw [hr]
  past := hp
  credit _ i := by rw [hr]

/-- A credit whose entry stood before the operation is left. -/
theorem LeavesCredit.creditAt (a : LeavesCredit s t) (h : s.pastIdle) (i : Socket) {p : Nat}
    (hp : p < s.acu.records[i].credit.length) : t.acu.records[i].creditAt p = s.acu.records[i].creditAt p := by
  unfold SocketRecord.creditAt
  rw [List.getD_eq_getElem?_getD, List.getD_eq_getElem?_getD, List.getElem?_eq_getElem hp, (a.credit h i).getElem hp, List.getElem?_eq_getElem]

theorem Leaves.refl (s : State) : Leaves s s := ⟨LeavesCredit.refl s, rfl, rfl, rfl, rfl, rfl, rfl, rfl, rfl, rfl⟩

theorem Leaves.trans (a : Leaves s t) (b : Leaves t u) : Leaves s u where
  toLeavesCredit := a.toLeavesCredit.trans b.toLeavesCredit
  biu := b.biu.trans a.biu
  scanner := b.scanner.trans a.scanner
  ldr := b.ldr.trans a.ldr
  door := b.door.trans a.door
  pending := b.pending.trans a.pending
  reportCode := b.reportCode.trans a.reportCode
  reportResult := b.reportResult.trans a.reportResult
  readDue := b.readDue.trans a.readDue
  scanWarm := b.scanWarm.trans a.scanWarm

theorem Leaves.ite {c : Prop} [Decidable c] (ht : c → Leaves s t) (hu : ¬c → Leaves s u) :
    Leaves s (if c then t else u) := by
  split
  · exact ht ‹_›
  · exact hu ‹_›

theorem Leaves.foldl {α : Type} (f : State → α → State) (h : ∀ t a, Leaves t (f t a)) (l : List α) (s : State) :
    Leaves s (l.foldl f s) := by
  induction l generalizing s with
  | nil => exact Leaves.refl s
  | cons a l ih => exact (h s a).trans (ih (f s a))

/-- What an update leaves that reaches neither the records nor anything outside the blocks. -/
def LeavesRest (s t : State) : Prop :=
  t.acu.records = s.acu.records ∧ t.biu = s.biu ∧ t.scanner = s.scanner ∧ t.ldr = s.ldr ∧ t.door = s.door ∧
  t.pending = s.pending ∧ t.acu.reportCode = s.acu.reportCode ∧ t.acu.reportResult = s.acu.reportResult ∧
  t.acu.readDue = s.acu.readDue ∧ t.thu.markScanWarm = s.thu.markScanWarm

/-- Such an update, by which the station does not go back to IDLE or LISTEN. -/
theorem Leaves.of_rest (h : LeavesRest s t) (hp : s.pastIdle → t.pastIdle) : Leaves s t := by
  obtain ⟨hr, hb, hs, hl, hd, hq, hc, he, hw, hm⟩ := h
  exact ⟨LeavesCredit.same hr hp, hb, hs, hl, hd, hq, hc, he, hw, hm⟩

/-- Such an update that leaves the state of the station; the small operations are opened here. -/
theorem Leaves.same
    (h : t.rcu.state = s.rcu.state ∧ LeavesRest s t := by
      simp [LeavesRest, State.releaseToken, State.leaveQueue, State.dropIneligible, State.stopSchedule, State.stopHeating,
        State.stopEngine, State.releaseAllowance, State.railsDisabled, State.enterHeld, State.enterBringup,
        State.countRecovery, State.openGates, State.windStep1, State.startRail, State.takeRetarget,
        State.retargetComplete, State.beginPass, State.writeInterruption, State.interruptRecovering, Rcu.interrupted,
        Rcu.recover, Rcu.arrive]) : Leaves s t :=
  Leaves.of_rest h.2 (fun past => by rw [State.pastIdle, h.1]; exact past)

end

/-! ### The named updates -/

/-- A record keeps its exposure and its credit list up to its length. -/
def SocketRecord.LeftBy (r q : SocketRecord) : Prop := q.exposure = r.exposure ∧ r.credit <+: q.credit

theorem SocketRecord.LeftBy.same {r q : SocketRecord} (he : q.exposure = r.exposure) (hc : q.credit = r.credit) : r.LeftBy q :=
  ⟨he, by rw [hc]⟩

section
variable (s : State)

theorem leaves_modRecord (i : Socket) (f : SocketRecord → SocketRecord) (h : s.acu.records[i].LeftBy (f s.acu.records[i])) :
    Leaves s (s.modRecord i f) := by
  have left : ∀ j : Socket, s.acu.records[j].LeftBy (s.modRecord i f).acu.records[j] := fun j => by
    rw [State.modRecord_records]
    split
    · next e => subst e; exact h
    · exact .same rfl rfl
  refine ⟨⟨fun j => (left j).1, fun h => h, fun _ j => (left j).2⟩, ?_, ?_, ?_, ?_, ?_, ?_, ?_, ?_, ?_⟩ <;> simp

theorem leaves_mapRecords (f : Socket → SocketRecord → SocketRecord) (h : ∀ i r, SocketRecord.LeftBy r (f i r)) :
    Leaves s (s.mapRecords f) := by
  have left : ∀ j : Socket, s.acu.records[j].LeftBy (s.mapRecords f).acu.records[j] := fun j => by
    rw [State.mapRecords_records]; exact h j _
  refine ⟨⟨fun j => (left j).1, fun h => h, fun _ j => (left j).2⟩, ?_, ?_, ?_, ?_, ?_, ?_, ?_, ?_, ?_⟩ <;> simp

/-- Records that may change their state only. -/
theorem leaves_become (f : SocketRecord → SocketRecord) (c : SocketRecord → Prop) [DecidablePred c]
    (he : ∀ r, (f r).exposure = r.exposure) (hc : ∀ r, (f r).credit = r.credit) :
    Leaves s (s.mapRecords (fun _ r => if c r then f r else r)) :=
  leaves_mapRecords s _ (fun i r => by
    split
    · exact .same (he r) (hc r)
    · exact .same rfl rfl)

theorem leaves_writeEntry (e : Entry) : Leaves s (s.writeEntry e) :=
  Leaves.same

/-! ### Heat -/

theorem leaves_serveHead : Leaves s s.serveHead := by
  unfold State.serveHead
  split
  · exact Leaves.refl s
  · exact Leaves.same

theorem leaves_forceOff (i : Socket) : Leaves s (s.forceOff i) := by
  unfold State.forceOff
  have cleared : Leaves s (s.modHeater i (fun h => { h with onTime := 0, inForce := 0 })) := Leaves.same
  refine cleared.trans ?_
  generalize s.modHeater i (fun h => { h with onTime := 0, inForce := 0 }) = u
  unfold State.endHeating State.tokenReturned
  split
  · refine (Leaves.same : Leaves u (u.modHeater i turnOff)).trans ?_
    exact Leaves.ite (fun _ => Leaves.same) (fun _ => leaves_serveHead _)
  · exact Leaves.same
  · exact Leaves.refl u

theorem leaves_startPeriod (i : Socket) : Leaves s (s.startPeriod i) := by
  unfold State.startPeriod
  have latched : Leaves s (s.modHeater i (latch s.prof.heaterPeriod)) := Leaves.same
  refine latched.trans ?_
  generalize s.modHeater i (latch s.prof.heaterPeriod) = u
  exact Leaves.ite (fun _ => Leaves.same)
    (fun _ => Leaves.ite (fun _ => Leaves.same) (fun _ => Leaves.same))

theorem leaves_addToken : Leaves s s.addToken :=
  (Leaves.same : Leaves s { s with thu := { s.thu with tokens := s.thu.tokens + 1 } }).trans (leaves_serveHead _)

theorem leaves_tokenCheck : Leaves s s.tokenCheck := by
  unfold State.tokenCheck
  refine Leaves.ite (fun _ => Leaves.same) (fun _ => Leaves.ite (fun _ => Leaves.same) (fun _ => ?_))
  exact Leaves.ite (fun _ => Leaves.same)
    (fun _ => Leaves.ite (fun _ => Leaves.same) (fun _ => Leaves.same))

theorem leaves_setAnchor : Leaves s s.setAnchor := by
  unfold State.setAnchor
  refine Leaves.trans ?_ (leaves_startPeriod _ 0)
  exact Leaves.ite (fun _ => Leaves.same) (fun _ => Leaves.same)

theorem leaves_stopSchedule : Leaves s s.stopSchedule := Leaves.same

theorem leaves_stopHeating : Leaves s s.stopHeating := Leaves.same

/-! ### The pattern engine -/

theorem leaves_rejoin : Leaves s s.rejoin := leaves_become s _ _ (fun _ => rfl) (fun _ => rfl)

theorem leaves_beginPass : Leaves s s.beginPass := (leaves_rejoin s).trans Leaves.same

theorem leaves_stopEngine : Leaves s s.stopEngine := Leaves.same

theorem leaves_abandon : Leaves s s.abandon := by
  unfold State.abandon
  exact Leaves.ite (fun _ => Leaves.refl s) (fun _ => Leaves.same)

theorem leaves_startPattern (n : Nat) : Leaves s (s.startPattern n) := by
  unfold State.startPattern
  split
  · exact Leaves.refl s
  · split
    · refine Leaves.trans ?_ (leaves_rejoin _)
      exact Leaves.same
    · refine Leaves.trans ?_ (leaves_beginPass _)
      exact Leaves.same

theorem leaves_requestStart (n : Nat) : Leaves s (s.requestStart n) := by
  unfold State.requestStart
  exact Leaves.ite (fun _ => Leaves.same) (fun _ => (leaves_abandon s).trans (leaves_startPattern _ n))

/-! ### Switches and rails -/

theorem leaves_dropSocket (i : Socket) : Leaves s (s.dropSocket i) := by
  unfold State.dropSocket
  have opened : Leaves s (s.modPower i openPower) := Leaves.same
  have off := opened.trans (leaves_forceOff _ i)
  exact off.trans Leaves.same

theorem leaves_closeSwitch (i : Socket) : Leaves s (s.closeSwitch i) := by
  unfold State.closeSwitch
  refine Leaves.trans ?_ (leaves_modRecord _ i _ (.same rfl rfl))
  exact Leaves.same

theorem leaves_startBringup : Leaves s s.startBringup := by
  unfold State.startBringup
  exact Leaves.ite (fun _ => Leaves.same) (fun _ => Leaves.same)

theorem leaves_takeRetarget (t : Nat) (l : List Rail) : Leaves s (s.takeRetarget t l) := by
  induction l with
  | nil => exact Leaves.same
  | cons r l ih =>
    unfold State.takeRetarget
    exact Leaves.ite (fun _ => ih) (fun _ => Leaves.same)

theorem leaves_startRetarget (t : Nat) : Leaves s (s.startRetarget t) := by
  unfold State.startRetarget
  refine Leaves.trans ?_ (leaves_takeRetarget _ t _)
  exact Leaves.same

theorem leaves_takeFalling (l : List Rail) : Leaves s (s.takeFalling l) := by
  induction l with
  | nil =>
    show Leaves s s.finishWinddown
    unfold State.finishWinddown
    exact Leaves.ite (fun _ => Leaves.of_rest (by simp [LeavesRest, State.enterDone]) (fun _ => ⟨nofun, nofun⟩)) (fun _ => Leaves.refl s)
  | cons r l ih =>
    unfold State.takeFalling
    exact Leaves.ite (fun _ => ih) (fun _ => Leaves.same)

/-! ### Run control -/

theorem leaves_removePower : Leaves s s.removePower := by
  unfold State.removePower
  have off : Leaves s (s.mapPower (fun _ p => unpowered p)).stopHeating.railsDisabled := Leaves.same
  generalize (s.mapPower (fun _ p => unpowered p)).stopHeating.railsDisabled = u at off
  exact (off.trans (leaves_abandon u)).trans Leaves.same

theorem leaves_parkSockets : Leaves s s.parkSockets := leaves_become s _ _ (fun _ => rfl) (fun _ => rfl)

theorem leaves_socketsOff : Leaves s s.socketsOff := leaves_become s _ _ (fun _ => rfl) (fun _ => rfl)

theorem leaves_parkedOff : Leaves s s.parkedOff := leaves_become s _ _ (fun _ => rfl) (fun _ => rfl)

theorem leaves_enterDone (c : Option EndCause) : Leaves s (s.enterDone c) := Leaves.of_rest (by simp [LeavesRest, State.enterDone]) (fun _ => ⟨nofun, nofun⟩)

theorem leaves_interruptActive (c : IntCause) : Leaves s (s.interruptActive c) := by
  unfold State.interruptActive
  refine ((leaves_removePower s).trans (leaves_parkSockets _)).trans ?_
  generalize s.removePower.parkSockets = u
  have written : Leaves u (State.writeInterruption { u with rcu := u.rcu.interrupted } c) := by
    refine Leaves.trans ?_ (leaves_writeEntry _ _)
    exact Leaves.same
  refine written.trans ?_
  exact Leaves.ite (fun _ => (leaves_parkedOff _).trans (leaves_enterDone _ _)) (fun _ => Leaves.same)

theorem leaves_interruptWinddown (c : IntCause) : Leaves s (s.interruptWinddown c) := by
  unfold State.interruptWinddown
  refine ((leaves_removePower s).trans (leaves_socketsOff _)).trans ?_
  generalize s.removePower.socketsOff = u
  have written : Leaves u (State.writeInterruption { u with rcu := { u.rcu with intCount := u.rcu.intCount + 1 } } c) := by
    refine Leaves.trans ?_ (leaves_writeEntry _ _)
    exact Leaves.same
  exact written.trans (leaves_enterDone _ _)

theorem leaves_interrupt (c : IntCause) : Leaves s (s.interrupt c) := by
  unfold State.interrupt
  split
  · refine Leaves.ite (fun _ => ?_) (fun _ => leaves_interruptActive s c)
    exact (leaves_writeEntry s _ : Leaves s (s.writeInterruption c)).trans Leaves.same
  · exact leaves_interruptWinddown s c
  · exact leaves_writeEntry s _
  · exact leaves_writeEntry s _
  · exact Leaves.refl s

theorem leaves_windSocket (i : Socket) : Leaves s (s.windSocket i) := by
  unfold State.windSocket
  refine Leaves.ite (fun _ => ?_) (fun _ => Leaves.ite (fun _ => leaves_modRecord s i _ (.same rfl rfl)) (fun _ => .refl s))
  have released : Leaves s ((s.dropSocket i).releaseAllowance i) := (leaves_dropSocket s i).trans Leaves.same
  exact released.trans (leaves_modRecord _ i _ (.same rfl rfl))

theorem leaves_powerDown : Leaves s s.powerDown := by
  unfold State.powerDown
  dsimp only
  have begun : Leaves s (State.windStep1 { s with rcu := { s.rcu with poweringDown := true } }) := Leaves.same
  generalize State.windStep1 _ = u at begun ⊢
  have wound := begun.trans (Leaves.foldl State.windSocket leaves_windSocket allSockets u)
  generalize allSockets.foldl State.windSocket u = w at wound ⊢
  refine Leaves.trans ?_ (leaves_takeFalling _ _)
  exact wound.trans Leaves.same

theorem leaves_computeDelta (t : Nat) : Leaves s (s.computeDelta t) := by
  unfold State.computeDelta
  exact Leaves.ite (fun _ => Leaves.same) (fun _ => leaves_startRetarget s t)

theorem leaves_stopComplete : Leaves s s.stopComplete := by
  unfold State.stopComplete
  split
  · split
    · exact Leaves.ite (fun _ => leaves_computeDelta s _) (fun _ => Leaves.refl s)
    · exact Leaves.refl s
  · exact Leaves.ite (fun _ => Leaves.refl s) (fun _ => leaves_powerDown s)
  · exact Leaves.refl s

theorem leaves_requestFinish : Leaves s s.requestFinish := by
  unfold State.requestFinish
  split
  · exact Leaves.same
  · exact (leaves_stopEngine s).trans (leaves_stopComplete _)
  · exact Leaves.refl s
  · exact leaves_stopComplete s

theorem leaves_enterTransition (t : Nat) : Leaves s (s.enterTransition t) := by
  unfold State.enterTransition
  refine Leaves.trans ?_ (leaves_requestFinish _)
  exact Leaves.same

theorem leaves_completeRun : Leaves s s.completeRun :=
  (Leaves.of_rest (by simp [LeavesRest, State.enterWinddown]) (fun _ => ⟨nofun, nofun⟩) : Leaves s (s.enterWinddown .complete)).trans (leaves_requestFinish _)

/-! ### The budget and the mark -/

theorem leaves_handOn (n : Need) : Leaves s (s.handOn n) := by
  unfold State.handOn
  split
  · exact leaves_startBringup s
  · exact Leaves.ite (fun _ => leaves_closeSwitch s _) (fun _ => Leaves.refl s)
  · split
    · exact leaves_startRetarget s _
    · exact Leaves.refl s
  · exact leaves_addToken s

theorem leaves_applyGrant : Leaves s s.applyGrant := by
  unfold State.applyGrant
  split
  · exact Leaves.refl s
  · refine Leaves.ite (fun _ => ?_) (fun _ => Leaves.refl s)
    refine Leaves.trans ?_ (leaves_handOn _ _)
    exact Leaves.same

theorem leaves_retryMarks : Leaves s s.retryMarks := by
  unfold State.retryMarks
  refine Leaves.ite (fun _ => Leaves.foldl _ (fun t i => ?_) _ s) (fun _ => Leaves.refl s)
  unfold State.retryMark
  exact Leaves.ite (fun _ => leaves_closeSwitch t i) (fun _ => Leaves.same)

theorem leaves_placeBringup (w : SocketState → Bool) : Leaves s (s.placeBringup w) := by
  unfold State.placeBringup
  refine Leaves.trans (Leaves.same : Leaves s (s.placeNeed .railBase)) (Leaves.foldl _ (fun t i => ?_) _ _)
  exact Leaves.ite (fun _ => Leaves.same) (fun _ => Leaves.refl t)

theorem leaves_enterBringup (b : Bool) : Leaves s (s.enterBringup b) := Leaves.same

/-- The start of a run makes new credit lists, in IDLE. -/
theorem leaves_startRun (b : Bool) (h : s.rcu.state = .idle) : Leaves s (s.startRun b) := by
  unfold State.startRun
  dsimp only
  generalize highestPhase s.joinPhases = join
  have started : Leaves s (State.mapRecords { s with rcu := s.rcu.start join s.planTargets }
      (fun _ => SocketRecord.newCredit (join.getD 0))) := by
    refine ⟨⟨fun i => ?_, fun past => absurd h past.1, fun past => absurd h past.1⟩, rfl, rfl, rfl, rfl, rfl, rfl, rfl, rfl, rfl⟩
    rw [State.mapRecords_records]
    rfl
  exact (started.trans (leaves_placeBringup _ _)).trans (leaves_enterBringup _ b)

theorem leaves_enterRunning (n : Nat) : Leaves s (s.enterRunning n) := by
  unfold State.enterRunning
  refine Leaves.trans ?_ (leaves_requestStart _ n)
  exact Leaves.same

theorem leaves_enterHeld (x : SubState) : Leaves s (s.enterHeld x) := Leaves.same

theorem leaves_decidePhase : Leaves s s.decidePhase := by
  unfold State.decidePhase
  exact Leaves.ite (fun _ => Leaves.refl s)
    (fun _ => Leaves.ite (fun _ => leaves_enterTransition s _) (fun _ => leaves_completeRun s))

theorem leaves_arrive (t : Nat) (b : Bool) : Leaves s (s.arrive t b) := by
  unfold State.arrive
  dsimp only
  generalize t - s.rcu.phase = gained
  have arrived : Leaves s (State.mapRecords { s with rcu := s.rcu.arrive t } (fun _ r => r.nextPhase gained)) :=
    (Leaves.same : Leaves s { s with rcu := s.rcu.arrive t }).trans
      (leaves_mapRecords _ _ (fun _ _ => ⟨rfl, List.prefix_append _ _⟩))
  exact arrived.trans (Leaves.ite (fun _ => leaves_enterHeld _ _) (fun _ => leaves_enterRunning _ _))

theorem leaves_recoveringMark (b : Bool) : Leaves s (s.recoveringMark b) := by
  unfold State.recoveringMark
  refine (Leaves.same : Leaves s s.countRecovery).trans (Leaves.ite (fun _ => ?_) (fun _ => Leaves.refl _))
  exact (leaves_placeBringup _ _).trans (leaves_enterBringup _ b)

theorem leaves_runMark (a b : Bool) : Leaves s (s.runMark a b) := by
  unfold State.runMark
  split
  · next h => exact Leaves.ite (fun _ => leaves_startRun s a h) (fun _ => Leaves.same)
  · split
    · unfold State.bringUpMark
      exact Leaves.ite (fun _ => leaves_enterHeld s _)
        (fun _ => Leaves.ite (fun _ => leaves_enterRunning s _) (fun _ => Leaves.refl s))
    · unfold State.runningMark
      exact Leaves.ite (fun _ => (leaves_enterHeld s _).trans (leaves_requestFinish _)) (fun _ => leaves_decidePhase s)
    · unfold State.transitionMark
      split
      · exact Leaves.ite (fun _ => leaves_arrive s _ a) (fun _ => Leaves.refl s)
      · exact Leaves.refl s
    · unfold State.heldMark
      exact Leaves.ite (fun _ => Leaves.refl s)
        (fun _ => Leaves.ite (fun _ => leaves_enterRunning s _) (fun _ => Leaves.same))
    · exact leaves_recoveringMark s a
    · exact Leaves.refl s
  · exact Leaves.refl s

theorem leaves_heatMark (b : Option SubState) : Leaves s (s.heatMark b) := by
  unfold State.heatMark
  refine Leaves.ite (fun _ => ?_) (fun _ => Leaves.refl s)
  have dropped : Leaves s s.dropIneligible := Leaves.same
  refine (dropped.trans (leaves_tokenCheck _)).trans ?_
  exact Leaves.ite (fun _ => leaves_setAnchor _) (fun _ => Leaves.refl _)

theorem leaves_openGates : Leaves s s.openGates := Leaves.same

end
end Sys2Proof.Machine
end

section
/-! SUPPORT. The mark: what its bus work writes, what the blocks' work keeps of it, and the round that begins (R4 to R21, R94,
R137 to R141, R146, R163). -/

namespace Sys2Proof.Machine

/-! ### The round begins -/

/-- The scanner once the scan of a mark is requested (R81, R94). -/
def Scanner.requested (c : Scanner) : Scanner :=
  if c.scan = none then { c with scan := some .mark, channel := 0 } else { c with held := some .mark }

theorem requestScan_mark (s : State) : s.requestScan .mark = { s with scanner := s.scanner.requested } := by
  unfold State.requestScan Scanner.requested
  cases h : s.scanner.scan <;> simp [h]

theorem beginRound_frame (s : State) : s.beginRound =
    { s with
      biu := { s.biu with received := 0, rxStatus := Vector.replicate 30 none, rxRounds := [], rxBroken := none
                          tx := s.biu.tx.nextRound }
      rcu := { s.rcu with sentVote := false }
      thu := { s.thu with markScanWarm := false }
      acu := { s.acu with reportCode := 0, reportResult := .none }
      scanner := s.scanner.requested } := by
  unfold State.beginRound
  rw [requestScan_mark]
  simp only [State.report]

/-! ### The bus work -/

/-- The update of the peer table moves it alone. -/
theorem updatePeers_frame (s : State) :
    s.updatePeers = { s with biu := { s.biu with peers := s.updatePeers.biu.peers } } := rfl

/-- The counts of a mark move three counts, outside LISTEN. -/
theorem counts_frame (s : State) :
    let t := if s.rcu.state = .listen then s else s.countUnheard.countMismatch
    t = { s with biu := { s.biu with mismatchCount := t.biu.mismatchCount, unheardStreak := t.biu.unheardStreak
                                     sinceUnheard := t.biu.sinceUnheard } } := by
  unfold State.countUnheard State.countMismatch
  dsimp only
  split
  · rfl
  · split <;> rfl

/-- What the bus work writes at every mark (R5, R7, R8, R18, R20), and what it leaves. -/
structure ClosesRound (s t : State) (slip : Nat) : Prop where
  roundTimer : t.biu.roundTimer = s.prof.period * 1000
  driftWarn : t.biu.driftWarn = driftWarnOf slip s.prof.period
  driftSevere : t.biu.driftSevere = driftSevereOf slip s.prof.period
  slip : t.biu.slip = slip
  roundNumber : t.biu.roundNumber = s.nextRound
  heardMask : t.biu.heardMask = s.biu.received
  peers : t.biu.peers = s.updatePeers.biu.peers
  cbmPulse : t.biu.cbmPulse = s.biu.cbmPulse
  received : t.biu.received = s.biu.received
  rest : t = { s with biu := t.biu }

theorem biuMark_closes (s : State) (slip : Nat) : ClosesRound s (s.biuMark slip) slip := by
  unfold State.biuMark
  dsimp only
  have updated := updatePeers_frame s
  have counted := counts_frame s.updatePeers
  dsimp only at counted
  obtain ⟨u, table⟩ : ∃ u, s.updatePeers = u := ⟨_, rfl⟩
  have peers : s.updatePeers.biu.peers = u.biu.peers := by rw [table]
  rw [table] at updated counted ⊢
  generalize (if u.rcu.state = .listen then u else u.countUnheard.countMismatch) = t at counted ⊢
  rw [updated] at counted
  rw [counted]
  exact ⟨rfl, rfl, rfl, rfl, rfl, rfl, peers.symm, rfl, rfl, rfl⟩

/-- The round just ended judged, and the bus work of the mark done. -/
def State.closed (s : State) (slip : Nat) : State :=
  (s.judgeRound s.rackHold (driftSevereOf slip s.prof.period)).biuMark slip

/-- The judgement of the round moves the records alone. -/
theorem judgeRound_frame (s : State) (hold severe : Bool) : s.judgeRound hold severe =
    { s with acu := { s.acu with records := (s.judgeRound hold severe).acu.records } } := rfl

theorem closed_frame (s : State) (slip : Nat) : s.closed slip =
    { s with biu := (s.closed slip).biu
             acu := { s.acu with
               records := (s.judgeRound s.rackHold (driftSevereOf slip s.prof.period)).acu.records } } :=
  (biuMark_closes _ slip).rest

theorem closed_closes (s : State) (slip : Nat) : ClosesRound s { s with biu := (s.closed slip).biu } slip := by
  have judged := judgeRound_frame s s.rackHold (driftSevereOf slip s.prof.period)
  unfold State.closed
  generalize s.judgeRound s.rackHold (driftSevereOf slip s.prof.period) = t at judged ⊢
  have closes := biuMark_closes t slip
  generalize t.biuMark slip = u at closes ⊢
  rw [judged] at closes
  exact ⟨closes.roundTimer, closes.driftWarn, closes.driftSevere, closes.slip, closes.roundNumber, closes.heardMask,
    closes.peers, closes.cbmPulse, closes.received, rfl⟩

theorem laterMark_of_mute {s : State} {slip : Nat} {cause : MuteCause} (mute : s.muteAtMark = some cause) :
    s.laterMark slip = (s.closed slip).beginRound.enterMuted cause := by
  unfold State.laterMark State.closed
  rw [mute]

theorem laterMark_of_none {s : State} {slip : Nat} (mute : s.muteAtMark = none) :
    s.laterMark slip =
      (((s.closed slip).blocksMark s.markFacts s.rackHold).markSignals s.unheardSignal).loseReply := by
  unfold State.laterMark State.closed
  rw [mute]

/-! ### What the blocks keep of the mark -/

/-- The slip, the round and the peer table as the bus work left them, with the exposures, the credits and the lines from
outside. -/
structure KeepsMark (s t : State) : Prop extends LeavesCredit s t where
  roundTimer : t.biu.roundTimer = s.biu.roundTimer
  slip : t.biu.slip = s.biu.slip
  driftWarn : t.biu.driftWarn = s.biu.driftWarn
  driftSevere : t.biu.driftSevere = s.biu.driftSevere
  roundNumber : t.biu.roundNumber = s.biu.roundNumber
  heardMask : t.biu.heardMask = s.biu.heardMask
  peers : t.biu.peers = s.biu.peers
  ldr : t.ldr = s.ldr
  door : t.door = s.door
  pending : t.pending = s.pending

theorem KeepsMark.trans {s t u : State} (a : KeepsMark s t) (b : KeepsMark t u) : KeepsMark s u where
  toLeavesCredit := a.toLeavesCredit.trans b.toLeavesCredit
  roundTimer := b.roundTimer.trans a.roundTimer
  slip := b.slip.trans a.slip
  driftWarn := b.driftWarn.trans a.driftWarn
  driftSevere := b.driftSevere.trans a.driftSevere
  roundNumber := b.roundNumber.trans a.roundNumber
  heardMask := b.heardMask.trans a.heardMask
  peers := b.peers.trans a.peers
  ldr := b.ldr.trans a.ldr
  door := b.door.trans a.door
  pending := b.pending.trans a.pending

theorem Leaves.keepsMark {s t : State} (a : Leaves s t) : KeepsMark s t := by
  refine ⟨a.toLeavesCredit, ?_, ?_, ?_, ?_, ?_, ?_, ?_, a.ldr, a.door, a.pending⟩ <;> rw [a.biu]

theorem keepsMark_joinMark (s : State) : KeepsMark s s.joinMark := by
  unfold State.joinMark State.joinEnd
  split
  · next listens =>
    have credit : ∀ t : State, t.acu.records = s.acu.records → LeavesCredit s t := fun t same =>
      ⟨fun i => by rw [same], fun past => absurd listens past.2, fun past => absurd listens past.2⟩
    dsimp only
    split <;> exact ⟨credit _ rfl, rfl, rfl, rfl, rfl, rfl, rfl, rfl, rfl, rfl, rfl⟩
  · exact (Leaves.refl s).keepsMark

theorem keepsMark_beginRound (s : State) : KeepsMark s s.beginRound := by
  rw [beginRound_frame]
  exact ⟨LeavesCredit.same rfl id, rfl, rfl, rfl, rfl, rfl, rfl, rfl, rfl, rfl, rfl⟩

theorem keepsMark_enterMuted (s : State) (cause : MuteCause) : KeepsMark s (s.enterMuted cause) := by
  rw [enterMuted_frame]
  exact ⟨LeavesCredit.same rfl (fun _ => ⟨nofun, nofun⟩), rfl, rfl, rfl, rfl, rfl, rfl, rfl, rfl, rfl, rfl⟩

theorem keepsMark_loseReply (s : State) : KeepsMark s s.loseReply := by
  unfold State.loseReply
  split
  · exact (Leaves.refl s).keepsMark
  · exact ⟨LeavesCredit.same rfl id, rfl, rfl, rfl, rfl, rfl, rfl, rfl, rfl, rfl, rfl⟩

/-! ### What waits for the round to begin -/

/-- The scanner, the reply due and the pulse on CBM, which the blocks leave until the round begins. -/
structure Awaits (s t : State) : Prop where
  scanner : t.scanner = s.scanner
  readDue : t.acu.readDue = s.acu.readDue
  cbmPulse : t.biu.cbmPulse = s.biu.cbmPulse

theorem Awaits.trans {s t u : State} (a : Awaits s t) (b : Awaits t u) : Awaits s u :=
  ⟨b.scanner.trans a.scanner, b.readDue.trans a.readDue, b.cbmPulse.trans a.cbmPulse⟩

theorem Leaves.awaits {s t : State} (a : Leaves s t) : Awaits s t := ⟨a.scanner, a.readDue, by rw [a.biu]⟩

theorem awaits_joinMark (s : State) : Awaits s s.joinMark := by
  unfold State.joinMark State.joinEnd
  split
  · dsimp only
    split <;> exact ⟨rfl, rfl, rfl⟩
  · exact ⟨rfl, rfl, rfl⟩

/-! ### The blocks at a mark -/

theorem leaves_budgetMark (s : State) (f : MarkFacts) : Leaves (s.predict (s.granted f.round)) (s.budgetMark f) := by
  unfold State.budgetMark
  exact Leaves.ite (fun _ => leaves_applyGrant _) (fun _ => Leaves.refl _)

/-- The blocks' work before the round begins. -/
def State.worked (s : State) (f : MarkFacts) (hold : Bool) : State :=
  let paid := (s.budgetMark f).retryMarks.joinMark
  ((paid.runMark hold paid.clashCount).heatMark paid.rcu.sub).openGates

theorem worked_keeps (s : State) (f : MarkFacts) (hold : Bool) :
    KeepsMark (s.predict (s.granted f.round)) (s.worked f hold) ∧
    Awaits (s.predict (s.granted f.round)) (s.worked f hold) := by
  have paid := (leaves_budgetMark s f).trans (leaves_retryMarks _)
  unfold State.worked
  generalize (s.budgetMark f).retryMarks = u at paid
  have run := ((leaves_runMark u.joinMark hold u.joinMark.clashCount).trans (leaves_heatMark _ u.joinMark.rcu.sub)).trans
    (leaves_openGates _)
  exact ⟨(paid.keepsMark.trans (keepsMark_joinMark u)).trans run.keepsMark,
    (paid.awaits.trans (awaits_joinMark u)).trans run.awaits⟩

theorem blocksMark_eq (s : State) (f : MarkFacts) (hold : Bool) : s.blocksMark f hold = (s.worked f hold).beginRound := rfl

/-- A clash does nothing, or mutes the station after an interruption (R15). -/
theorem clash_cases (s : State) : s.clash = s ∨ ∃ u, Leaves s u ∧ s.clash = u.enterMuted .clash := by
  unfold State.clash
  split
  · exact Or.inr ⟨s, Leaves.refl s, rfl⟩
  · exact Or.inr ⟨s, Leaves.refl s, rfl⟩
  · split
    · exact Or.inr ⟨s, Leaves.refl s, rfl⟩
    · exact Or.inr ⟨_, leaves_interrupt s _, rfl⟩
  · exact Or.inr ⟨_, leaves_interrupt s _, rfl⟩
  · exact Or.inl rfl

/-- After the signals of a mark the round stands as it began, but for a muted station (R15, R21). -/
theorem markSignals_cases (s : State) (unheard : Bool) :
    ∃ u, Leaves s u ∧ (s.markSignals unheard = u ∨ s.markSignals unheard = u.enterMuted .clash) := by
  unfold State.markSignals
  have told : Leaves s (if unheard = true then s.interrupt .unheard else s) :=
    Leaves.ite (fun _ => leaves_interrupt s _) (fun _ => Leaves.refl s)
  generalize (if unheard = true then s.interrupt .unheard else s) = v at told
  dsimp only
  split
  · rcases clash_cases v with same | ⟨u, left, muted⟩
    · exact ⟨v, told, Or.inl same⟩
    · exact ⟨u, told.trans left, Or.inr muted⟩
  · exact ⟨v, told, Or.inl rfl⟩

/-! ### The whole mark -/

/-- The round that has begun at a mark: nothing received or reported, its scan requested, and a reply due lost; a station that the
mark mutes has released CBM, stopped the scanner and holds the reply (R12, R24, R94, R146, R163). -/
structure RoundBegun (s t : State) : Prop where
  received : t.biu.received = 0
  reportCode : t.acu.reportCode = 0
  reportResult : t.acu.reportResult = .none
  scanWarm : t.thu.markScanWarm = false
  scanner : t.rcu.state ≠ .muted → t.scanner = s.scanner.requested
  cbmPulse : t.rcu.state ≠ .muted → t.biu.cbmPulse = s.biu.cbmPulse
  readDue : t.acu.readDue = if t.rcu.state = .muted then s.acu.readDue else none

/-- A muted station's round. -/
theorem roundBegun_enterMuted {s u : State} (v : State) (await : Awaits s v) (left : Leaves v.beginRound u) (cause : MuteCause) :
    RoundBegun s (u.enterMuted cause) := by
  rw [enterMuted_frame]
  have begun := beginRound_frame v
  refine ⟨?_, ?_, ?_, ?_, fun ne => absurd rfl ne, fun ne => absurd rfl ne, ?_⟩
  · show u.biu.received = 0; rw [left.biu, begun]
  · show u.acu.reportCode = 0; rw [left.reportCode, begun]
  · show u.acu.reportResult = .none; rw [left.reportResult, begun]
  · show u.thu.markScanWarm = false; rw [left.scanWarm, begun]
  · show u.acu.readDue = _; rw [left.readDue, begun]; exact await.readDue

/-- The round of a station that stays on the bus, once its reply is lost. -/
theorem roundBegun_loseReply {s u : State} (v : State) (await : Awaits s v) (left : Leaves v.beginRound u) :
    RoundBegun s u.loseReply := by
  have begun := beginRound_frame v
  have received : u.biu.received = 0 := by rw [left.biu, begun]
  have reportCode : u.acu.reportCode = 0 := by rw [left.reportCode, begun]
  have reportResult : u.acu.reportResult = .none := by rw [left.reportResult, begun]
  have scanWarm : u.thu.markScanWarm = false := by rw [left.scanWarm, begun]
  have scanner : u.scanner = s.scanner.requested := by rw [left.scanner, begun, ← await.scanner]
  have cbmPulse : u.biu.cbmPulse = s.biu.cbmPulse := by rw [left.biu, begun, ← await.cbmPulse]
  have readDue : u.acu.readDue = s.acu.readDue := by rw [left.readDue, begun, ← await.readDue]
  unfold State.loseReply
  split
  · next muted => exact ⟨received, reportCode, reportResult, scanWarm, fun _ => scanner, fun _ => cbmPulse,
      readDue.trans (if_pos muted).symm⟩
  · next on => exact ⟨received, reportCode, reportResult, scanWarm, fun _ => scanner, fun _ => cbmPulse, (if_neg on).symm⟩

theorem loseReply_enterMuted (s : State) (cause : MuteCause) : (s.enterMuted cause).loseReply = s.enterMuted cause := if_pos rfl

/-- The peers granted at a mark; none where the mark mutes the station. -/
def State.grantedAt (s : State) (slip : Nat) : List Station :=
  if s.muteAtMark = none then (s.closed slip).granted s.markFacts.round else []

theorem predict_frame (s : State) (granted : List Station) :
    s.predict granted = { s with biu := { s.biu with peers := (s.predict granted).biu.peers } } := rfl

/-- With nobody granted nothing is predicted. -/
theorem predict_nil (s : State) : s.predict [] = s := by
  have same : (s.predict []).biu.peers = s.biu.peers := by
    apply Vector.ext
    intro k hk
    simp [State.predict]
  rw [predict_frame, same]

/-- What a later mark keeps of its bus work and its predictions, and the round it begins. -/
theorem laterMark_outcome (s : State) (slip : Nat) :
    KeepsMark ((s.closed slip).predict (s.grantedAt slip)) (s.laterMark slip) ∧ RoundBegun (s.closed slip) (s.laterMark slip) := by
  unfold State.grantedAt
  cases mute : s.muteAtMark with
  | some cause =>
    rw [laterMark_of_mute mute, if_neg nofun]
    rw [predict_nil]
    exact ⟨(keepsMark_beginRound _).trans (keepsMark_enterMuted _ cause),
      roundBegun_enterMuted (s.closed slip) ⟨rfl, rfl, rfl⟩ (Leaves.refl _) cause⟩
  | none =>
    rw [laterMark_of_none mute, if_pos rfl, blocksMark_eq]
    obtain ⟨keeps, await⟩ := worked_keeps (s.closed slip) s.markFacts s.rackHold
    have await : Awaits (s.closed slip) ((s.closed slip).worked s.markFacts s.rackHold) :=
      ⟨await.scanner, await.readDue, await.cbmPulse⟩
    generalize (s.closed slip).worked s.markFacts s.rackHold = w at keeps await
    have begun := keeps.trans (keepsMark_beginRound w)
    obtain ⟨u, left, same | muted⟩ := markSignals_cases w.beginRound s.unheardSignal
    · rw [same]
      exact ⟨(begun.trans left.keepsMark).trans (keepsMark_loseReply u), roundBegun_loseReply w await left⟩
    · rw [muted, loseReply_enterMuted]
      exact ⟨(begun.trans left.keepsMark).trans (keepsMark_enterMuted u _), roundBegun_enterMuted w await left _⟩

/-! ### Edges and expiries -/

theorem edge_of_accepted {s : State} (running : s.running = true)
    (near : s.biu.synced = true → s.biu.roundTimer ≤ s.prof.period * 1000 / 2) : s.edge = s.acceptMark s.biu.roundTimer := by
  unfold State.edge
  rw [if_neg (by rw [running]; decide), if_neg (fun runt => ?_)]
  have := near runt.1
  have := runt.2
  omega

theorem expire_of_due {s : State} (running : s.running = true) (due : s.biu.roundTimer = 0) :
    s.expire = State.acceptMark { s with biu := { s.biu with cbmPulse := usTicks 20 } } 0 := if_pos ⟨running, due⟩

theorem acceptMark_of_synced {s : State} (synced : s.biu.synced = true) (slip : Nat) : s.acceptMark slip = s.laterMark slip :=
  if_pos synced

theorem acceptMark_of_unsynced {s : State} (unsynced : s.biu.synced = false) (slip : Nat) : s.acceptMark slip = s.syncMark :=
  if_neg (by rw [unsynced]; decide)

/-- The sync mark (R6, R9, R20, R94). -/
theorem syncMark_frame (s : State) : s.syncMark =
    { s with
      biu := { s.biu with
        roundTimer := s.prof.period * 1000, usPhase := 0, synced := true, slip := 0, driftWarn := false, driftSevere := false
        roundNumber := s.biu.roundNumber + 1, heardMask := 0, joinCount := 0, received := 0
        rxStatus := Vector.replicate 30 none, rxRounds := [], rxBroken := none, tx := s.biu.tx.nextRound }
      rcu := { s.rcu with sentVote := false }
      thu := { s.thu with markScanWarm := false }
      acu := { s.acu with reportCode := 0, reportResult := .none }
      scanner := s.scanner.requested } := beginRound_frame _

theorem Scanner.requested_of_none {c : Scanner} (h : c.scan = none) : c.requested = { c with scan := some .mark, channel := 0 } :=
  if_pos h

theorem Scanner.requested_of_ne {c : Scanner} (h : c.scan ≠ none) : c.requested = { c with held := some .mark } := if_neg h

/-- Settles O12: the two sync marks differ by the pulse on CBM alone. -/
theorem edgesExpiriesAndTheSyncMark : Obligations.EdgesExpiriesAndTheSyncMark := by
  intro s
  refine ⟨fun synced far => ?_, fun left => ?_, fun off => ?_, fun running unsynced c mem due => ?_⟩
  · refine congrArg Host.Outcome.next ?_
    unfold State.edge
    split
    · rfl
    · exact if_pos ⟨synced, by omega⟩
  · exact congrArg Host.Outcome.next (if_neg (fun h => left h.2))
  · have still : s.running = false := by
      rcases off with h | h | h | h <;> simp [State.running, State.transmits, h]
    refine ⟨congrArg Host.Outcome.next (if_pos still), congrArg Host.Outcome.next (if_neg fun h => ?_)⟩
    rw [still] at h
    exact absurd h.1 (by decide)
  · rcases List.mem_pair.mp mem with rfl | rfl
    · refine ⟨s.syncMark, congrArg Host.Outcome.next ?_, ?_⟩
      · rw [edge_of_accepted running (fun h => absurd h (by rw [unsynced]; decide)), acceptMark_of_unsynced unsynced]
      · rw [syncMark_frame]
        exact ⟨rfl, rfl, rfl, rfl, rfl, rfl, rfl, rfl, rfl, rfl, rfl, rfl, rfl, rfl, rfl, rfl, Scanner.requested_of_none,
          Scanner.requested_of_ne, rfl⟩
    · refine ⟨State.syncMark { s with biu := { s.biu with cbmPulse := usTicks 20 } }, congrArg Host.Outcome.next ?_, ?_⟩
      · rw [expire_of_due running (due rfl), acceptMark_of_unsynced (by exact unsynced)]
      · rw [syncMark_frame]
        exact ⟨rfl, rfl, rfl, rfl, rfl, rfl, rfl, rfl, rfl, rfl, rfl, rfl, rfl, rfl, rfl, rfl, Scanner.requested_of_none,
          Scanner.requested_of_ne, rfl⟩

end Sys2Proof.Machine
end

section
/-! SUPPORT. What a mark makes of the frames heard and of the round just ended, and what mutes a station (R5 to R24, R38, R63,
R137 to R141). -/

namespace Sys2Proof.Machine

/-! ### The bus after a mark -/

/-- The bus as a later mark leaves it, its predictions apart (R5, R7, R12, R20). -/
theorem laterMark_bus (s : State) (slip : Nat) :
    let t := s.laterMark slip
    t.biu.slip = slip ∧ t.biu.driftWarn = driftWarnOf slip s.prof.period ∧
    t.biu.driftSevere = driftSevereOf slip s.prof.period ∧ t.biu.roundTimer = s.prof.period * 1000 ∧
    t.biu.heardMask = s.biu.received ∧ t.biu.roundNumber = s.nextRound ∧ t.ldr = s.ldr ∧ t.door = s.door ∧
    t.pending = s.pending := by
  intro t
  have keeps := (laterMark_outcome s slip).1
  have closes := closed_closes s slip
  rw [predict_frame] at keeps
  generalize ((s.closed slip).predict (s.grantedAt slip)).biu.peers = peers at keeps
  have frame := closed_frame s slip
  generalize s.closed slip = c at keeps closes frame
  exact ⟨keeps.slip.trans closes.slip, keeps.driftWarn.trans closes.driftWarn, keeps.driftSevere.trans closes.driftSevere,
    keeps.roundTimer.trans closes.roundTimer, keeps.heardMask.trans closes.heardMask,
    keeps.roundNumber.trans closes.roundNumber, keeps.ldr.trans (by rw [frame]), keeps.door.trans (by rw [frame]),
    keeps.pending.trans (by rw [frame])⟩

/-- The round as a later mark begins it (R12, R94, R146, R163). -/
theorem laterMark_round (s : State) (slip : Nat) : RoundBegun s (s.laterMark slip) := by
  have begun := (laterMark_outcome s slip).2
  have frame := closed_frame s slip
  have closes := closed_closes s slip
  generalize s.closed slip = c at begun frame closes
  have scanner : c.scanner = s.scanner := by rw [frame]
  have readDue : c.acu.readDue = s.acu.readDue := by rw [frame]
  exact ⟨begun.received, begun.reportCode, begun.reportResult, begun.scanWarm, fun on => scanner ▸ begun.scanner on,
    fun on => (begun.cbmPulse on).trans closes.cbmPulse, readDue ▸ begun.readDue⟩

theorem RoundBegun.asked {s t : State} (begun : RoundBegun s t) : t.thu.markScanWarm = false ∧ (t.rcu.state ≠ .muted →
    (s.scanner.scan = none → t.scanner = { s.scanner with scan := some .mark, channel := 0 }) ∧
    (s.scanner.scan ≠ none → t.scanner = { s.scanner with held := some .mark })) ∧
    t.acu.readDue = if t.rcu.state = .muted then s.acu.readDue else none :=
  ⟨begun.scanWarm, fun on => ⟨fun idle => (begun.scanner on).trans (Scanner.requested_of_none idle),
    fun scans => (begun.scanner on).trans (Scanner.requested_of_ne scans)⟩, begun.readDue⟩

theorem edge_of_near {s : State} (running : s.running = true) (synced : s.biu.synced = true)
    (near : s.biu.roundTimer ≤ s.prof.period * 1000 / 2) : s.edge = s.laterMark s.biu.roundTimer := by
  rw [edge_of_accepted running (fun _ => near), acceptMark_of_synced synced]

theorem expire_of_synced {s : State} (running : s.running = true) (synced : s.biu.synced = true)
    (due : s.biu.roundTimer = 0) :
    s.expire = State.laterMark { s with biu := { s.biu with cbmPulse := usTicks 20 } } 0 := by
  rw [expire_of_due running due]
  exact acceptMark_of_synced (by exact synced) 0

/-- Settles O13: the bus and the round that a later mark leaves, with the edge's slip or with slip 0. -/
theorem markCapturesSlipAndBeginsTheRound : Obligations.MarkCapturesSlipAndBeginsTheRound := by
  intro s running synced asked
  refine ⟨fun near => ?_, fun due => ?_⟩
  · refine ⟨_, congrArg Host.Outcome.next (edge_of_near running synced near), ?_⟩
    obtain ⟨slip, warn, severe, timer, heard, round, ldr, door, pending⟩ := laterMark_bus s s.biu.roundTimer
    have begun := laterMark_round s s.biu.roundTimer
    exact ⟨slip, warn, severe, timer, heard, begun.received, round, begun.reportCode, begun.reportResult, begun.asked, ldr, door,
      pending⟩
  · refine ⟨_, congrArg Host.Outcome.next (expire_of_synced running synced due), ?_⟩
    obtain ⟨slip, warn, severe, timer, heard, round, ldr, door, pending⟩ :=
      laterMark_bus { s with biu := { s.biu with cbmPulse := usTicks 20 } } 0
    have begun := laterMark_round { s with biu := { s.biu with cbmPulse := usTicks 20 } } 0
    exact ⟨slip, warn.trans (by simp [driftWarnOf]), severe.trans (by simp [driftSevereOf]), timer, heard, begun.received,
      round, begun.cbmPulse, begun.asked, ldr, door, pending⟩

/-! ### Round numbers -/

/-- The highest of the round numbers given (R8). -/
theorem highestRound_spec (own : Word) (rounds : List Word) :
    let top := highestRound own rounds
    own.toNat ≤ top.toNat ∧ (∀ r ∈ rounds, r.toNat ≤ top.toNat) ∧ (top = own ∨ top ∈ rounds) := by
  induction rounds generalizing own with
  | nil => exact ⟨Nat.le_refl _, nofun, Or.inl rfl⟩
  | cons r rs ih =>
    show _ ≤ (highestRound (if own.toNat < r.toNat then r else own) rs).toNat ∧ _
    obtain ⟨least, all, one⟩ := ih (if own.toNat < r.toNat then r else own)
    have next : highestRound own (r :: rs) = highestRound (if own.toNat < r.toNat then r else own) rs := rfl
    rw [next]
    generalize highestRound (if own.toNat < r.toNat then r else own) rs = top at *
    split at least <;> rename_i c <;> simp only [c, if_true, if_false] at one
    · refine ⟨by omega, fun x mem => ?_, Or.inr (List.mem_cons.mpr one)⟩
      rcases List.mem_cons.mp mem with rfl | mem
      · exact least
      · exact all x mem
    · refine ⟨least, fun x mem => ?_, one.imp id (List.mem_cons_of_mem r)⟩
      rcases List.mem_cons.mp mem with rfl | mem
      · omega
      · exact all x mem

theorem nextRound_spec {s : State} (on : s.rcu.state ≠ .listen) : ∃ top : Word, s.nextRound = top + 1 ∧
    s.biu.roundNumber.toNat ≤ top.toNat ∧ (∀ p ∈ s.peerReports, p.2.round.toNat ≤ top.toNat) ∧
    (top = s.biu.roundNumber ∨ ∃ p ∈ s.peerReports, p.2.round = top) := by
  unfold State.nextRound
  rw [if_neg on]
  obtain ⟨own, all, one⟩ := highestRound_spec s.biu.roundNumber (s.peerReports.map (fun p => p.2.round))
  exact ⟨_, rfl, own, fun p mem => all _ (List.mem_map_of_mem mem), one.imp id (fun mem => List.mem_map.mp mem)⟩

theorem listenRound_spec {s : State} (listens : s.rcu.state = .listen) :
    let heard := s.biu.rxRounds ++ s.allReports.map StatusReport.round
    (heard = [] → s.nextRound = s.biu.roundNumber + 1) ∧
    (heard ≠ [] → ∃ top ∈ heard, s.nextRound = top + 1 ∧ ∀ r ∈ heard, r.toNat ≤ top.toNat) := by
  unfold State.nextRound State.listenRound
  rw [if_pos listens]
  generalize s.biu.rxRounds ++ s.allReports.map StatusReport.round = heard
  cases heard with
  | nil => exact ⟨fun _ => rfl, fun ne => absurd rfl ne⟩
  | cons r rs =>
    obtain ⟨first, all, one⟩ := highestRound_spec r rs
    refine ⟨nofun, fun _ => ⟨_, List.mem_cons.mpr one, rfl, fun x mem => ?_⟩⟩
    rcases List.mem_cons.mp mem with rfl | mem
    · exact first
    · exact all x mem

/-! ### The peer table -/

theorem updatePeers_peers (s : State) (k : Station) : s.updatePeers.biu.peers[k] =
    if s.heardFrom k then s.biu.peers[k].hear s.biu.rxStatus[k] s.ldr.rackCode
    else s.biu.peers[k].miss s.prof.lostThreshold := by
  simp [State.updatePeers]

theorem predict_peers (s : State) (granted : List Station) (k : Station) : (s.predict granted).biu.peers[k] =
    if k ∈ granted ∧ s.isOwn k = false then
      { s.biu.peers[k] with report := { s.biu.peers[k].report with held := s.biu.peers[k].report.held + s.biu.peers[k].report.asked } }
    else s.biu.peers[k] := by
  simp [State.predict]

/-- Only a peer that is LIVE is granted (R52, R61). -/
theorem live_of_granted (s : State) (round : Word) (k : Station) :
    k ∈ s.granted round → s.isOwn k = false → s.biu.peers[k].presence = .live := by
  intro mem other
  unfold State.granted at mem
  by_cases full : s.prof.budget < s.tableSum
  · rw [if_pos full] at mem
    exact absurd mem List.not_mem_nil
  · rw [if_neg full] at mem
    generalize s.prof.budget - s.tableSum = free at mem
    have asks : 0 < s.candidate k := visit_asks s.candidate (visitOrder round) free k mem
    by_contra dead
    have none : s.candidate k = 0 := by
      simp only [State.candidate, other, Bool.false_eq_true, if_false]
      exact if_neg (fun live => dead live.1)
    omega

/-- The peer table after a mark: the update of R18, and for a granted peer the prediction of R53. -/
theorem laterMark_peers (s : State) (slip : Nat) (k : Station) :
    let e := s.updatePeers.biu.peers[k]
    (s.laterMark slip).biu.peers[k] = e ∨
    e.presence = .live ∧ (s.laterMark slip).biu.peers[k] =
      { e with report := { e.report with held := e.report.held + e.report.asked } } := by
  intro e
  have keeps := (laterMark_outcome s slip).1
  have closes := (closed_closes s slip).peers
  have peer : (s.closed slip).biu.peers[k] = e := by
    have same : (s.closed slip).biu.peers = s.updatePeers.biu.peers := closes
    rw [same]
  rw [keeps.peers, predict_peers]
  split
  · next granted =>
    refine Or.inr ⟨?_, by rw [peer]⟩
    have mem := granted.1
    unfold State.grantedAt at mem
    split at mem
    · rw [← peer]; exact live_of_granted _ _ k mem granted.2
    · exact absurd mem List.not_mem_nil
  · exact Or.inl peer

theorem Peer.miss_not_live (e : Peer) (lost : Nat) : (e.miss lost).presence ≠ .live := by
  unfold Peer.miss
  split
  · next h => simp [h]
  · simp
  · next h => split <;> simp [h]
  · next h => split <;> simp [h, Peer.forget]

/-- A frame received: the entry is LIVE and shows the report, its held perhaps predicted (R17, R18, R22, R53). -/
theorem hear_outcome (e u : Peer) (report : Option StatusReport) (rack : Half)
    (outcome : u = e.hear report rack ∨ (e.hear report rack).presence = .live ∧ u =
      { e.hear report rack with report := { (e.hear report rack).report with
          held := (e.hear report rack).report.held + (e.hear report rack).report.asked } }) :
    u.presence = .live ∧ u.missed = 0 ∧ ∀ r, report = some r → u.rackDiffers = (r.rackCode != rack) ∧
      u.report = { r with held := u.report.held } ∧ (u.report.held = r.held ∨ u.report.held = r.held + r.asked) := by
  cases report with
  | none =>
    rcases outcome with rfl | ⟨-, rfl⟩ <;> exact ⟨rfl, rfl, nofun⟩
  | some q =>
    rcases outcome with rfl | ⟨-, rfl⟩
    · exact ⟨rfl, rfl, fun r same => Option.some.inj same ▸ ⟨rfl, rfl, Or.inl rfl⟩⟩
    · exact ⟨rfl, rfl, fun r same => Option.some.inj same ▸ ⟨rfl, rfl, Or.inr rfl⟩⟩

/-- A slot missed: the table of R18. -/
theorem miss_outcome (e : Peer) (lost : Nat) :
    let u := e.miss lost
    u.rackDiffers = e.rackDiffers ∧
    (e.presence ≠ .lost ∨ e.missed + 1 < 2 * lost → u.report = e.report) ∧
    (e.presence = .absent → u.presence = .absent ∧ u.missed = 0) ∧
    (e.presence = .live → u.presence = .silent ∧ u.missed = 1) ∧
    (e.presence = .silent → u.missed = e.missed + 1 ∧ u.presence = if e.missed + 1 < lost then .silent else .lost) ∧
    (e.presence = .lost → e.missed + 1 < 2 * lost → u.presence = .lost ∧ u.missed = e.missed + 1) ∧
    (e.presence = .lost → 2 * lost ≤ e.missed + 1 →
      u.presence = .absent ∧ u.missed = 0 ∧ u.report = { e.report with held := 0, asked := 0 }) := by
  unfold Peer.miss
  cases h : e.presence with
  | absent => simp
  | live => simp
  | silent =>
    by_cases c : e.missed + 1 < lost
    · simp [c]
    · simp [c]
  | lost =>
    by_cases c : e.missed + 1 < 2 * lost
    · simp [c]
    · simp [c, Peer.forget]

/-- Settles O14: the round numbers, and the peer table entry by entry. -/
theorem markFollowsTheFramesHeard : Obligations.MarkFollowsTheFramesHeard := by
  intro s running synced near
  refine ⟨_, congrArg Host.Outcome.next (edge_of_near running synced near), fun on => ?_, fun listens => ?_, fun k => ?_⟩
  · rw [(laterMark_bus s _).2.2.2.2.2.1]
    exact nextRound_spec on
  · rw [(laterMark_bus s _).2.2.2.2.2.1]
    exact listenRound_spec listens
  · intro e u
    have outcome := laterMark_peers s s.biu.roundTimer k
    rw [updatePeers_peers] at outcome
    refine ⟨fun heard => ?_, fun missed => ?_⟩
    · rw [if_pos heard] at outcome
      exact hear_outcome e u _ _ outcome
    · rw [if_neg (by rw [missed]; decide)] at outcome
      have same : u = e.miss s.prof.lostThreshold :=
        outcome.resolve_right (fun predicted => Peer.miss_not_live _ _ predicted.1)
      rw [same]
      exact miss_outcome e _

/-! ### The work of a mark -/

/-- Settles O15: `laterMark` and the signals after it, written out. -/
theorem markRunsItsWork : Obligations.MarkRunsItsWork := by
  intro s
  refine ⟨?_, ⟨rfl, ?_, ?_⟩, fun running synced => ⟨fun near => ?_, fun due => ?_⟩⟩
  · simp [State.rackHold]
  · simp [State.markFacts]
  · simp [State.markFacts, allStations, and_assoc]
  · intro closed
    have marked := edge_of_near running synced near
    have same : s.closed s.biu.roundTimer = closed := rfl
    refine ⟨fun cause mute => congrArg Host.Outcome.next (marked.trans ?_), fun none => ?_⟩
    · rw [laterMark_of_mute mute, same]
    · intro paid run begun told ended
      refine congrArg Host.Outcome.next (marked.trans ?_)
      rw [laterMark_of_none none, same]
      have paying : (closed.budgetMark s.markFacts).retryMarks.joinMark = paid := rfl
      have blocks : closed.blocksMark s.markFacts s.rackHold = begun := by
        simp only [State.blocksMark, paying, begun, run]
      have signals : begun.markSignals s.unheardSignal = ended := by
        simp only [State.markSignals, ended, told]
      simp only [blocks, signals, State.loseReply]
  · refine congrArg Host.Outcome.next ?_
    rw [expire_of_synced running synced due, edge_of_near (by exact running) (by exact synced) (by rw [due]; exact Nat.zero_le _)]
    exact congrArg (State.laterMark _) due.symm

/-! ### The round judged -/

theorem judgeRound_records (s : State) (hold severe : Bool) (i : Socket) :
    (s.judgeRound hold severe).acu.records[i] =
      if s.acu.powered[i] = true ∧ s.acu.records[i].exposure < Config.countMax then
        s.acu.records[i].earn (s.earned hold severe i) s.rcu.phase
      else s.acu.records[i] := State.mapRecords_records s _ i

theorem earn_creditAt (r : SocketRecord) (credited : Bool) {p : Nat} (h : p < r.credit.length) :
    (r.earn credited p).creditAt p = r.creditAt p + (if credited then 1 else 0) ∧
    p < (r.earn credited p).credit.length := by
  cases credited <;> simp [SocketRecord.earn, SocketRecord.creditAt, h]

/-- What the blocks leave of a socket's record once the round is judged. -/
theorem laterMark_record (s : State) (slip : Nat) (i : Socket) :
    let judged := (s.judgeRound s.rackHold (driftSevereOf slip s.prof.period)).acu.records[i]
    (s.laterMark slip).acu.records[i].exposure = judged.exposure ∧
    (s.rcu.state = .active → ∀ p < judged.credit.length,
      (s.laterMark slip).acu.records[i].creditAt p = judged.creditAt p) := by
  intro judged
  have keeps := (laterMark_outcome s slip).1.toLeavesCredit
  rw [predict_frame, closed_frame] at keeps
  generalize (State.predict _ _).biu.peers = peers at keeps
  refine ⟨keeps.exposure i, fun active p inside => ?_⟩
  exact keeps.creditAt ⟨by show s.rcu.state ≠ _; rw [active]; decide, by show s.rcu.state ≠ _; rw [active]; decide⟩ i inside

/-- Settles O17: the blocks leave what the judgement gave. -/
theorem markJudgesTheRoundOfEachSocket : Obligations.MarkJudgesTheRoundOfEachSocket := by
  intro s running synced near
  refine ⟨_, congrArg Host.Outcome.next (edge_of_near running synced near), fun i => ?_⟩
  intro r powered earned
  obtain ⟨exposure, credit⟩ := laterMark_record s s.biu.roundTimer i
  have judged := judgeRound_records s s.rackHold (driftSevereOf s.biu.roundTimer s.prof.period) i
  rw [judged] at exposure credit
  by_cases counts : s.acu.powered[i] = true ∧ s.acu.records[i].exposure < Config.countMax
  · have on : powered = true := by simpa [powered, r, Config.countMax] using counts
    have same : earned = s.earned s.rackHold (driftSevereOf s.biu.roundTimer s.prof.period) i := by
      simp only [earned, on, Bool.true_and]
      rfl
    rw [if_pos counts] at exposure credit
    refine ⟨exposure.trans (by rw [on]; rfl), fun active inside => ?_⟩
    obtain ⟨gained, still⟩ := earn_creditAt r (s.earned s.rackHold (driftSevereOf s.biu.roundTimer s.prof.period) i) inside
    rw [same]
    exact (credit active _ still).trans gained
  · have off : powered = false := by
      have := counts
      simp only [Config.countMax] at this
      simpa [powered, r] using this
    rw [if_neg counts] at exposure credit
    refine ⟨exposure.trans (by rw [off]; rfl), fun active inside => ?_⟩
    have none : earned = false := by simp [earned, off]
    rw [none]
    exact credit active _ inside

end Sys2Proof.Machine
end

section
/-! SUPPORT. What mutes a station at a mark, and the waits that end at one (R14 to R24, R46, R89). -/

namespace Sys2Proof.Machine

/-! ### The causes to mute -/

theorem muteAtMark_listen {s : State} (listens : s.rcu.state = .listen) :
    s.muteAtMark = if ∃ k : Station, s.isOwn k = true ∧ s.heardFrom k = true then some .clash
      else if ∃ r ∈ s.allReports, r.rackCode ≠ s.ldr.rackCode then some .rack else none := by
  simp [State.muteAtMark, listens, allStations]

theorem muteAtMark_idle {s : State} (idle : s.rcu.state = .idle) :
    s.muteAtMark = if ∃ p ∈ s.peerReports, stationSlot p.1 < s.slot.val ∧ p.2.rackCode ≠ s.ldr.rackCode then some .rack
      else none := by
  have lower : (s.peerReports.any fun p => decide (stationSlot p.1 < s.slot.val) && p.2.rackCode != s.ldr.rackCode) = true ↔
      ∃ p ∈ s.peerReports, stationSlot p.1 < s.slot.val ∧ p.2.rackCode ≠ s.ldr.rackCode := by simp
  unfold State.muteAtMark
  rw [idle]
  exact if_congr lower rfl rfl

theorem muteAtMark_other {s : State} (listen : s.rcu.state ≠ .listen) (idle : s.rcu.state ≠ .idle) : s.muteAtMark = none := by
  unfold State.muteAtMark
  split
  · next h => exact absurd h listen
  · next h => exact absurd h idle
  · rfl

/-! ### The counts of the heard masks and of the stopped frames -/

theorem biuMark_counts {s : State} (on : s.rcu.state ≠ .listen) (slip : Nat) :
    (s.biuMark slip).biu.mismatchCount = s.countMismatch.biu.mismatchCount ∧
    (s.biuMark slip).biu.unheardStreak = s.countUnheard.biu.unheardStreak ∧
    (s.biuMark slip).biu.sinceUnheard = s.countUnheard.biu.sinceUnheard := by
  unfold State.biuMark
  dsimp only
  rw [updatePeers_frame]
  generalize s.updatePeers.biu.peers = peers
  rw [if_neg (by exact on)]
  unfold State.countUnheard State.countMismatch
  have finding : State.heardFinding { s with biu := { s.biu with peers := peers } } = s.heardFinding := rfl
  rw [finding]
  cases s.heardFinding with
  | none => exact ⟨rfl, rfl, rfl⟩
  | some heard => cases heard <;> exact ⟨rfl, rfl, rfl⟩

/-- The finding of the heard masks received (R21). -/
theorem heardFinding_cases (s : State) :
    (s.peerReports = [] ∧ s.heardFinding = none) ∨
    (s.peerReports ≠ [] ∧ (∀ p ∈ s.peerReports, p.2.heard.getLsbD s.slot.val = true) ∧ s.heardFinding = some true) ∨
    ((∃ p ∈ s.peerReports, p.2.heard.getLsbD s.slot.val = false) ∧ s.heardFinding = some false) := by
  unfold State.heardFinding
  cases h : s.peerReports with
  | nil => exact Or.inl ⟨rfl, rfl⟩
  | cons p ps =>
    dsimp only
    cases all : (p :: ps).all (fun p => p.2.heard.getLsbD s.slot.val) with
    | true => exact Or.inr (Or.inl ⟨nofun, by simpa using all, rfl⟩)
    | false =>
      obtain ⟨q, mem, missing⟩ := List.all_eq_false.mp all
      exact Or.inr (Or.inr ⟨⟨q, mem, Bool.eq_false_iff.mpr missing⟩, rfl⟩)

/-- The counts of R21 from the finding. -/
theorem countUnheard_spec (s : State) :
    let t := s.countUnheard
    let heard : Prop := s.peerReports ≠ [] ∧ ∀ p ∈ s.peerReports, p.2.heard.getLsbD s.slot.val = true
    let unheard : Prop := ∃ p ∈ s.peerReports, p.2.heard.getLsbD s.slot.val = false
    (heard → t.biu.unheardStreak = 0) ∧ (unheard → t.biu.unheardStreak = s.biu.unheardStreak + 1) ∧
    (s.peerReports = [] → t.biu.unheardStreak = s.biu.unheardStreak) ∧
    (unheard → t.biu.sinceUnheard = 0) ∧ (¬unheard → t.biu.sinceUnheard = min 255 (s.biu.sinceUnheard + 1)) ∧
    (s.heardFinding = some false ↔ unheard) := by
  intro t heard unheard
  have both : heard → ¬unheard := fun all ⟨p, mem, no⟩ => by rw [all.2 p mem] at no; cases no
  have counted : t = s.countUnheard := rfl
  unfold State.countUnheard at counted
  rcases heardFinding_cases s with ⟨empty, finding⟩ | ⟨some, all, finding⟩ | ⟨missing, finding⟩ <;> rw [finding] at counted ⊢ <;>
    rw [counted]
  · have no : ¬unheard := fun ⟨p, mem, _⟩ => by rw [empty] at mem; cases mem
    exact ⟨fun h => absurd empty h.1, fun h => absurd h no, fun _ => rfl, fun h => absurd h no, fun _ => rfl, nofun,
      fun h => absurd h no⟩
  · have no : ¬unheard := both ⟨some, all⟩
    exact ⟨fun _ => rfl, fun h => absurd h no, fun h => absurd h some, fun h => absurd h no, fun _ => rfl, nofun,
      fun h => absurd h no⟩
  · have there : ¬s.peerReports = [] := fun empty => by
      obtain ⟨p, mem, -⟩ := missing
      rw [empty] at mem
      cases mem
    exact ⟨fun h => absurd missing (both h), fun _ => rfl, fun h => absurd h there, fun _ => rfl, fun h => absurd missing h,
      fun _ => missing, fun _ => rfl⟩

/-! ### The clash and the entry into MUTED -/

theorem clash_of_active {s : State} (active : s.rcu.state = .active) :
    s.clash = if s.railsOff = true ∧ s.bdu.ownHeld = 0 then s.enterMuted .clash
      else (s.interrupt .unheard).enterMuted .clash := by
  unfold State.clash
  rw [active]

theorem clash_of_windDown {s : State} (winds : s.rcu.state = .windDown) :
    s.clash = (s.interrupt .unheard).enterMuted .clash := by
  unfold State.clash
  rw [winds]

theorem clash_of_rest {s : State} (rest : s.rcu.state = .idle ∨ s.rcu.state = .done) : s.clash = s.enterMuted .clash := by
  unfold State.clash
  rcases rest with h | h <;> rw [h]

theorem abandon_dclk (s : State) : s.abandon.ptu.dclk = (s.ptu.dclk && decide (s.ptu.engine = .stopped)) := by
  unfold State.abandon
  split
  · next h => simp [h]
  · next h => simp [h, State.stopEngine]

/-- Settles O16: the causes, the counts, the clash and the entry, each by its definition's table. -/
theorem stationIsMutedAtItsConditions : Obligations.StationIsMutedAtItsConditions := by
  intro s
  refine ⟨fun listens => ⟨fun own => ?_, fun quiet => ⟨fun rack => ?_, fun same => ?_⟩⟩, fun idle => ⟨fun rack => ?_, fun same => ?_⟩,
    fun listen idle => muteAtMark_other listen idle, fun on slip => ?_, ?_, clash_of_rest, fun active => ⟨fun off none => ?_, fun held => ?_⟩,
    clash_of_windDown, fun cause => ?_⟩
  · rw [muteAtMark_listen listens, if_pos own]
  · rw [muteAtMark_listen listens, if_neg (fun ⟨k, own, heard⟩ => by rw [quiet k own] at heard; cases heard), if_pos rack]
  · rw [muteAtMark_listen listens, if_neg (fun ⟨k, own, heard⟩ => by rw [quiet k own] at heard; cases heard),
      if_neg (fun ⟨r, mem, differs⟩ => differs (same r mem))]
  · rw [muteAtMark_idle idle, if_pos rack]
  · rw [muteAtMark_idle idle, if_neg (fun ⟨p, mem, lower, differs⟩ => differs (same p mem lower))]
  · intro t heard unheard
    obtain ⟨mismatch, streak, since⟩ := biuMark_counts on slip
    obtain ⟨h1, h2, h3, h4, h5, signal⟩ := countUnheard_spec s
    refine ⟨mismatch.trans ?_, fun h => streak.trans (h1 h), fun h => streak.trans (h2 h), fun h => streak.trans (h3 h),
      fun h => since.trans (h4 h), fun h => since.trans (h5 h), ?_⟩
    · unfold State.countMismatch
      cases s.biu.tx <;> rfl
    · simp only [State.unheardSignal, Bool.and_eq_true, beq_iff_eq, and_assoc]
      rw [signal]
  · simp [State.clashCount]
  · rw [clash_of_active active, if_pos ⟨off, none⟩]
  · rw [clash_of_active active, if_neg]
    rintro ⟨off, none⟩
    rcases held with h | h
    · rw [off] at h; cases h
    · exact h none
  · intro t
    have frame : t = _ := enterMuted_frame s cause
    have line : t.clockLine = s.abandon.ptu.dclk := by rw [frame]; rfl
    refine ⟨?_, ?_, ?_, ?_, ?_, ?_, ?_, line.trans (abandon_dclk s), ?_, ?_, ?_, ?_, ?_, ?_, ?_, ?_⟩ <;> rw [frame] <;> rfl

end Sys2Proof.Machine
end

section
/-! SUPPORT. The waits that end at a mark: the needs of a bring-up, the schedule's anchor, and the retry waits socket by socket
(R23, R31, R46, R55, R89, R101, R102). -/

namespace Sys2Proof.Machine

/-! ### The needs of a bring-up -/

/-- The needs of a run's start or resumption, placed in an empty queue (R31, R46, R55). -/
def State.bringupNeeds (s : State) (wants : SocketState → Bool) : List Need :=
  .railBase :: (allSockets.filter (fun i => wants (s.socketState i))).map Need.socket

theorem place_of_not_mem {queue : List Need} {n : Need} (other : n ≠ .transition) (new : n ∉ queue) :
    place queue n = queue ++ [n] := by
  unfold place
  rw [if_neg new, if_neg other]

theorem placeSockets_frame (wants : SocketState → Bool) (l : List Socket) (distinct : l.Nodup) (s : State) :
    (∀ i ∈ l, .socket i ∉ s.bdu.queue) →
    l.foldl (fun t i => if wants (t.socketState i) then t.placeNeed (.socket i) else t) s =
      { s with bdu := { s.bdu with
          queue := s.bdu.queue ++ (l.filter (fun i => wants (s.socketState i))).map Need.socket } } := by
  induction l generalizing s with
  | nil => intro _; simp
  | cons i l ih =>
    intro new
    obtain ⟨notIn, distinct⟩ := List.nodup_cons.mp distinct
    rw [List.foldl_cons]
    by_cases want : wants (s.socketState i) = true
    · have placed : s.placeNeed (.socket i) = { s with bdu := { s.bdu with queue := s.bdu.queue ++ [.socket i] } } := by
        unfold State.placeNeed
        rw [place_of_not_mem (n := .socket i) nofun (new i List.mem_cons_self)]
      rw [if_pos want, placed, ih distinct]
      · have same : ∀ j, State.socketState { s with bdu := { s.bdu with queue := s.bdu.queue ++ [.socket i] } } j =
            s.socketState j := fun j => rfl
        simp [same, want]
      · intro j mem
        have ne : j ≠ i := fun e => notIn (e ▸ mem)
        simpa [ne] using new j (List.mem_cons_of_mem i mem)
    · rw [if_neg want, ih distinct s (fun j mem => new j (List.mem_cons_of_mem i mem)), List.filter_cons_of_neg (by simpa using want)]

theorem placeBringup_frame {s : State} (empty : s.bdu.queue = []) (wants : SocketState → Bool) :
    s.placeBringup wants = { s with bdu := { s.bdu with queue := s.bringupNeeds wants } } := by
  have placed : s.placeNeed .railBase = { s with bdu := { s.bdu with queue := [.railBase] } } := by
    unfold State.placeNeed
    rw [empty]
    rfl
  unfold State.placeBringup
  rw [placed, placeSockets_frame wants allSockets (List.nodup_finRange 16) _ (fun i _ => by simp)]
  rfl

/-! ### The schedule -/

/-- A period start moves the Thermal Unit alone, and not its anchor or its tokens. -/
theorem startPeriod_frame (s : State) (i : Socket) :
    s.startPeriod i = { s with thu := { (s.startPeriod i).thu with anchor := s.thu.anchor, tokens := s.thu.tokens } } := by
  unfold State.startPeriod
  dsimp only
  generalize hu : s.modHeater i (latch s.prof.heaterPeriod) = u
  have frame : u = { s with thu := { s.thu with heaters := u.thu.heaters } } := by rw [← hu]; rfl
  rw [frame]
  generalize u.thu.heaters = v
  split
  · rfl
  · split <;> rfl

/-- A new anchor moves the Thermal Unit, and with a token returned under a pending release the own held (R101, R104). -/
theorem setAnchor_frame (s : State) :
    s.setAnchor = { s with thu := { s.setAnchor.thu with anchor := some s.biu.roundNumber }
                           bdu := { s.bdu with ownHeld := s.setAnchor.bdu.ownHeld } } := by
  unfold State.setAnchor
  dsimp only
  generalize hu : s.mapHeaters (anchorHeater s.prof.heaterPeriod) = u
  have frame : u = { s with thu := { s.thu with heaters := u.thu.heaters } } := by rw [← hu]; rfl
  rw [frame]
  generalize u.thu.heaters = v
  split
  · rw [startPeriod_frame]; rfl
  · rw [startPeriod_frame]

/-! ### RECOVERING -/

theorem runMark_of_recovering {s : State} (active : s.rcu.state = .active) (recovering : s.rcu.sub = some .recovering)
    (hold clash : Bool) : s.runMark hold clash = s.recoveringMark hold := by
  unfold State.runMark
  rw [active]
  dsimp only
  rw [recovering]

theorem recoveryDue_iff (s : State) : s.recoveryDue = true ↔
    s.prof.recoveryWait ≤ s.rcu.recoverMarks + 1 ∧ (s.rcu.recoverBulk = true → s.rlu.bulkLow = false) ∧
    (s.rcu.recoverUnheard = true → s.prof.lostThreshold ≤ s.biu.sinceUnheard) := by
  unfold State.recoveryDue
  cases s.rcu.recoverBulk <;> cases s.rcu.recoverUnheard <;> simp [and_assoc]

/-- The end of RECOVERING with an empty queue (R46). -/
theorem recoveryEnd_frame {s : State} (empty : s.bdu.queue = []) (hold : Bool) :
    s.recoveryEnd hold = { s with
      rcu := { s.rcu with sub := some (if hold then .held else .bringUp), remembered := if hold then some .bringUp else none }
      bdu := { s.bdu with queue := s.bringupNeeds (fun st => st == .parked || st == .off) } } := by
  unfold State.recoveryEnd
  rw [placeBringup_frame empty]
  rfl

/-! ### Retry waits -/

/-- The power side of a socket whose switch closes (R83, R89). -/
def State.closedPower (s : State) : SocketPower :=
  { closed := true, allowance := s.prof.allowance[s.levelInForce], threshold := s.prof.allowance[s.levelInForce]
    debounce := 0, openStreak := 0, settle := some (msTicks s.prof.socketSettle), openCheck := none, retryWait := none
    settledNow := false }

theorem closeSwitch_eq (s : State) (i : Socket) : s.closeSwitch i =
    { s with rlu := { s.rlu with sockets := s.rlu.sockets.set i s.closedPower }
             acu := { s.acu with records := s.acu.records.set i { s.acu.records[i] with state := .powering } } } := rfl

theorem retries_iff (s : State) : s.retries = true ↔ s.rcu.state = .active ∧
    (s.rcu.sub = some .bringUp ∨ s.rcu.sub = some .running ∨ s.rcu.sub = some .transition ∨ s.rcu.sub = some .held) := by
  unfold State.retries
  cases s.rcu.sub with
  | none => simp
  | some sub => cases sub <;> simp

theorem retryDue_of_wait {s : State} {i : Socket} {k : Nat} (state : s.socketState i = .retry)
    (wait : s.rlu.sockets[i].retryWait = some k) (last : k ≤ 1) : s.retryDue i = true := by
  unfold State.retryDue
  rw [state, wait]
  simpa using last

theorem retryDue_of_early {s : State} {i : Socket} (early : ∀ k, s.rlu.sockets[i].retryWait = some k → 1 < k) :
    s.retryDue i = false := by
  unfold State.retryDue
  generalize s.rlu.sockets[i].retryWait = wait at early
  cases wait with
  | none => simp
  | some k =>
    have := early k rfl
    simp only [Option.any_some, Bool.and_eq_false_iff, decide_eq_false_iff_not]
    exact Or.inr (by omega)

/-- With no wait there is none to count down. -/
theorem SocketPower.without_wait {p : SocketPower} (none : p.retryWait = none) :
    { p with retryWait := p.retryWait.map (· - 1) } = p := by
  cases p
  cases none
  rfl

/-- A socket's power side and record at a mark of the retry waits (R89). -/
theorem retryMark_at (s : State) (i : Socket) :
    (s.retryMark i).rlu.sockets[i] = (if s.retryDue i = true then s.closedPower
      else { s.rlu.sockets[i] with retryWait := s.rlu.sockets[i].retryWait.map (· - 1) }) ∧
    (s.retryMark i).acu.records[i] = if s.retryDue i = true then { s.acu.records[i] with state := .powering }
      else s.acu.records[i] := by
  unfold State.retryMark
  split
  · rw [closeSwitch_eq]; simp
  · rw [State.modPower_sockets, if_pos rfl]
    exact ⟨rfl, rfl⟩

theorem retryMark_frame (s : State) (i : Socket) : s.retryMark i =
    { s with rlu := { s.rlu with sockets := (s.retryMark i).rlu.sockets }
             acu := { s.acu with records := (s.retryMark i).acu.records } } := by
  unfold State.retryMark
  split <;> rfl

theorem retryMark_ne (s : State) (i j : Socket) (ne : i ≠ j) :
    (s.retryMark i).rlu.sockets[j] = s.rlu.sockets[j] ∧ (s.retryMark i).acu.records[j] = s.acu.records[j] := by
  unfold State.retryMark
  split
  · rw [closeSwitch_eq]
    have : i.val ≠ j.val := fun e => ne (Fin.ext e)
    simp [this]
  · rw [State.modPower_sockets, if_neg ne]
    exact ⟨rfl, rfl⟩

/-- The retry waits at a mark, socket by socket: each socket's is independent of the others'. -/
theorem retryMarks_fold (l : List Socket) (distinct : l.Nodup) (s : State) :
    let t := l.foldl State.retryMark s
    t = { s with rlu := { s.rlu with sockets := t.rlu.sockets }, acu := { s.acu with records := t.acu.records } } ∧
    ∀ i : Socket, (i ∉ l → t.rlu.sockets[i] = s.rlu.sockets[i] ∧ t.acu.records[i] = s.acu.records[i]) ∧
      (i ∈ l → t.rlu.sockets[i] = (s.retryMark i).rlu.sockets[i] ∧ t.acu.records[i] = (s.retryMark i).acu.records[i]) := by
  induction l generalizing s with
  | nil => exact ⟨rfl, fun i => ⟨fun _ => ⟨rfl, rfl⟩, nofun⟩⟩
  | cons a l ih =>
    obtain ⟨notIn, distinct⟩ := List.nodup_cons.mp distinct
    obtain ⟨frame, each⟩ := ih distinct (s.retryMark a)
    have moved := retryMark_frame s a
    intro t
    have step : t = l.foldl State.retryMark (s.retryMark a) := rfl
    rw [← step] at frame each
    refine ⟨frame.trans (by rw [moved]), fun i => ⟨fun out => ?_, fun mem => ?_⟩⟩
    · have ne : a ≠ i := fun e => out (e ▸ List.mem_cons_self)
      obtain ⟨power, record⟩ := retryMark_ne s a i ne
      obtain ⟨power', record'⟩ := (each i).1 (fun mem => out (List.mem_cons_of_mem a mem))
      exact ⟨power'.trans power, record'.trans record⟩
    · by_cases here : a = i
      · subst here
        exact (each a).1 notIn
      · obtain ⟨power, record⟩ := retryMark_ne s a i here
        have inside := (List.mem_cons.mp mem).resolve_left (fun e => here e.symm)
        obtain ⟨power', record'⟩ := (each i).2 inside
        have closes : (s.retryMark a).closedPower = s.closedPower := by rw [moved]; rfl
        have due : (s.retryMark a).retryDue i = s.retryDue i := by
          unfold State.retryDue State.socketState
          rw [power, record]
        obtain ⟨atPower, atRecord⟩ := retryMark_at (s.retryMark a) i
        obtain ⟨wasPower, wasRecord⟩ := retryMark_at s i
        rw [power, due, closes, ← wasPower] at atPower
        rw [record, due, ← wasRecord] at atRecord
        exact ⟨power'.trans atPower, record'.trans atRecord⟩

theorem retryMarks_spec {s : State} (retries : s.retries = true) :
    let t := s.retryMarks
    t = { s with rlu := { s.rlu with sockets := t.rlu.sockets }, acu := { s.acu with records := t.acu.records } } ∧
    ∀ i : Socket, t.rlu.sockets[i] = (s.retryMark i).rlu.sockets[i] ∧ t.acu.records[i] = (s.retryMark i).acu.records[i] := by
  have marks : s.retryMarks = allSockets.foldl State.retryMark s := if_pos retries
  obtain ⟨frame, each⟩ := retryMarks_fold allSockets (List.nodup_finRange 16) s
  rw [← marks] at frame each
  exact ⟨frame, fun i => (each i).2 (List.mem_finRange i)⟩

/-! ### The join wait -/

theorem joinDue_iff {s : State} (listens : s.rcu.state = .listen) (synced : s.biu.synced = true) :
    s.joinDue = true ↔ s.prof.joinWait ≤ s.biu.joinCount + 1 := by
  simp [State.joinDue, listens, synced]

/-- Settles O18: each wait by its own rule, at a mark and as a row by itself. -/
theorem waitsEndAsTheirRules : Obligations.WaitsEndAsTheirRules := by
  intro s closes retries
  refine ⟨fun active recovering hold clash => ?_, fun on => if_neg on, fun listens synced => ⟨fun early => ?_, fun due => ?_⟩,
    fun none => ?_, fun some => ?_, fun active recovering empty wait bulk unheard => ?_, fun listens synced due mute => ?_,
    fun i k some state wait last => ?_⟩
  · intro t due
    have marked : t = s.recoveringMark hold := runMark_of_recovering active recovering hold clash
    unfold State.recoveringMark at marked
    refine ⟨fun wait => ?_, fun ends empty => ?_⟩
    · rw [marked]
      exact if_neg (fun h => wait ((recoveryDue_iff s).mp h))
    · rw [marked]
      dsimp only
      rw [if_pos ((recoveryDue_iff s).mpr ends), recoveryEnd_frame (by exact empty)]
      rfl
  · unfold State.joinMark
    rw [if_pos listens]
    exact if_neg (fun h => absurd ((joinDue_iff listens synced).mp h) (by omega))
  · unfold State.joinMark
    rw [if_pos listens]
    exact if_pos ((joinDue_iff listens synced).mpr due)
  · exact if_neg (fun h => none ((retries_iff s).mp h))
  · intro t
    obtain ⟨frame, each⟩ := retryMarks_spec ((retries_iff s).mpr some)
    refine ⟨frame, fun i => ?_⟩
    intro p r
    obtain ⟨power, record⟩ := each i
    obtain ⟨atPower, atRecord⟩ := retryMark_at s i
    rw [atPower] at power
    rw [atRecord] at record
    refine ⟨fun none => ?_, fun k wait more => ?_, fun k wait last state => ?_⟩
    · have early : s.retryDue i = false := retryDue_of_early (fun k wait => nomatch none.symm.trans wait)
      rw [early] at power record
      exact ⟨power.trans (SocketPower.without_wait none), record⟩
    · have early : s.retryDue i = false := retryDue_of_early (fun j other => by
        rw [← Option.some.inj (wait.symm.trans other)]; exact more)
      rw [early] at power record
      refine ⟨power.trans ?_, record⟩
      show { p with retryWait := p.retryWait.map (· - 1) } = _
      rw [wait]
      rfl
    · have due : s.retryDue i = true := retryDue_of_wait state wait last
      rw [if_pos due] at power record
      exact ⟨power, record⟩
  · have ends : s.endRecovering = (s.recoveryEnd s.rackHold).setAnchor :=
      if_pos ⟨active, recovering, (recoveryDue_iff s).mpr ⟨wait, bulk, unheard⟩⟩
    refine ⟨_, congrArg Host.Outcome.next ends, ?_⟩
    rw [setAnchor_frame, recoveryEnd_frame empty]
    exact ⟨active, rfl, rfl, fun free => by rw [free]; exact ⟨rfl, rfl⟩, fun held => by rw [held]; exact ⟨rfl, rfl⟩, rfl, rfl, rfl, rfl, rfl⟩
  · refine congrArg Host.Outcome.next ?_
    exact if_pos ⟨(joinDue_iff listens synced).mpr due, mute⟩
  · refine congrArg Host.Outcome.next ?_
    exact if_pos ⟨(retries_iff s).mpr some, retryDue_of_wait state wait last⟩

end Sys2Proof.Machine
end

section
/-! SUPPORT. The frames on CBD: when the own frame is built and what it asks, its end, and the frames received (R2, R9 to R14, R36,
R57 to R60, R157, R160 to R162). -/

namespace Sys2Proof.Machine

/-! ### The build -/

theorem buildFrame_of_build {s : State} (transmits : s.transmits = true)
    (start : s.prof.period * 1000 - s.biu.roundTimer = s.slot.val * s.prof.period * 1000 / 32) (whole : s.biu.usPhase = 0)
    (unsent : s.biu.tx = .notSent ∨ s.biu.tx = .carriedOver) : s.buildFrame = s.settleTransition.sendFrame := by
  refine if_pos ⟨transmits, (State.atSlotStart_iff s whole).mpr ?_, unsent⟩
  rw [start, State.slotBegin, Nat.mul_assoc]

/-- On a µs apart from the slot start, or within one, no frame is built. -/
theorem atSlotStart_eq_false {s : State} (within : s.biu.usPhase < 40)
    (off : s.prof.period * 1000 - s.biu.roundTimer ≠ s.slot.val * s.prof.period * 1000 / 32 ∨ s.biu.usPhase ≠ 0) :
    s.atSlotStart = false := by
  have begins : s.slotBegin s.slot.val = s.slot.val * s.prof.period * 1000 / 32 := by rw [State.slotBegin, Nat.mul_assoc]
  unfold State.atSlotStart State.elapsed
  rw [begins, beq_eq_false_iff_ne]
  generalize s.prof.period * 1000 - s.biu.roundTimer = past at *
  generalize s.slot.val * s.prof.period * 1000 / 32 = start at *
  simp only [usTicks_eq]
  omega

theorem settleTransition_of_due {s : State} {t : Transit} {rest : List Need} (head : s.bdu.queue = .transition :: rest)
    (transit : s.rcu.transit = some t) :
    s.settleTransition = if s.delta t.target ≤ 0 then (s.withdraw .transition).startRetarget t.target else s := by
  have amount : s.amount .transition = (s.delta t.target).toNat := by simp [State.amount, transit]
  unfold State.settleTransition
  rw [head, transit]
  dsimp only
  rw [amount]
  exact if_congr (Int.toNat_eq_zero) rfl rfl

/-- Nothing is withdrawn while the delta is above 0. -/
theorem settleTransition_of_positive {s : State}
    (positive : ∀ (t : Transit) (rest : List Need), s.bdu.queue = .transition :: rest → s.rcu.transit = some t →
      0 < s.delta t.target) : s.settleTransition = s := by
  unfold State.settleTransition
  split
  · next rest t head transit =>
    have amount : s.amount .transition = (s.delta t.target).toNat := by simp [State.amount, transit]
    have := positive t rest head transit
    exact if_neg (by omega)
  · rfl

/-- Settles O19: the build at its instant, and the instants at which there is none. -/
theorem frameBuildFixesTheFrame : Obligations.FrameBuildFixesTheFrame := by
  intro s slotStart past
  refine ⟨fun transmits start whole unsent positive => congrArg Host.Outcome.next ?_, fun off => congrArg Host.Outcome.next ?_⟩
  · rw [buildFrame_of_build transmits start whole unsent, settleTransition_of_positive positive]
    rfl
  · rcases off with mute | ⟨apart, within⟩ | ⟨inside, within⟩ | ⟨sent, carried⟩
    · exact if_neg (fun h => by rw [mute] at h; exact absurd h.1 (by decide))
    · exact State.buildFrame_of_not_slotStart s (atSlotStart_eq_false within (Or.inl apart))
    · exact State.buildFrame_of_not_slotStart s (atSlotStart_eq_false within (Or.inr inside))
    · exact if_neg (fun h => h.2.2.elim sent carried)

/-! ### The asked value and the vote -/

theorem askNow_of_waits {s : State} (waits : s.rcu.sub = some .held ∨ s.rcu.sub = some .recovering) : s.askNow = 0 := by
  unfold State.askNow
  split
  · rfl
  · exact if_pos waits

theorem askNow_of_socket {s : State} {i : Socket} {rest : List Need} (head : s.bdu.queue = .socket i :: rest)
    (held : s.rcu.sub ≠ some .held) (recovering : s.rcu.sub ≠ some .recovering) :
    s.askNow = if s.railsCarry then s.prof.allowance[s.levelInForce] else 0 := by
  unfold State.askNow
  rw [head]
  exact if_neg (fun h => h.elim held recovering)

theorem askNow_of_other {s : State} {n : Need} {rest : List Need} (head : s.bdu.queue = n :: rest)
    (held : s.rcu.sub ≠ some .held) (recovering : s.rcu.sub ≠ some .recovering) (other : ∀ i, n ≠ .socket i) :
    s.askNow = s.amount n := by
  unfold State.askNow
  rw [head]
  refine (if_neg (fun h => h.elim held recovering)).trans ?_
  cases n with
  | socket i => exact absurd rfl (other i)
  | railBase => rfl
  | transition => rfl
  | heater => rfl

theorem railsCarry_iff (s : State) : s.railsCarry = true ↔ ∀ r : Rail, s.railState r = .up ∨ s.railState r = .retargeting := by
  simp only [State.railsCarry, List.all_eq_true, Bool.or_eq_true, beq_iff_eq]
  exact ⟨fun h r => h r (mem_allRails r), fun h r _ => h r⟩

theorem votes_iff (st : SocketState) : st.votes = true ↔ st ≠ .failed ∧ st ≠ .excluded := by cases st <;> decide

theorem doneVote_iff {s : State} (active : s.rcu.state = .active) : s.doneVote = true ↔ s.rcu.lateMark = some s.rcu.phase ∨
    ∀ i : Socket, s.socketState i ≠ .failed → s.socketState i ≠ .excluded →
      s.target s.rcu.phase ≤ s.acu.records[i].creditAt s.rcu.phase := by
  simp only [State.doneVote, active, beq_self_eq_true, Bool.true_and, Bool.or_eq_true, beq_iff_eq, List.all_eq_true,
    Bool.not_eq_true', decide_eq_true_eq]
  refine or_congr Iff.rfl ⟨fun all i failed excluded => ?_, fun all i _ => ?_⟩
  · refine (all i (List.mem_finRange i)).resolve_left (fun mute => ?_)
    rw [(votes_iff _).mpr ⟨failed, excluded⟩] at mute
    cases mute
  · cases votes : (s.socketState i).votes with
    | false => exact Or.inl rfl
    | true =>
      obtain ⟨failed, excluded⟩ := (votes_iff _).mp votes
      exact Or.inr (all i failed excluded)

/-- Settles O20: the tables of the asked value, the level and the vote, and the withdrawal at the build. -/
theorem askedValueAndVoteFollowTheirTables : Obligations.AskedValueAndVoteFollowTheirTables := by
  intro s
  refine ⟨fun empty => ?_, askNow_of_waits, fun n rest head held recovering => ?_, fun still => ?_, fun t moving => ?_,
    fun off => ?_, doneVote_iff, fun t rest transmits start whole unsent head moving due => congrArg Host.Outcome.next ?_⟩
  · unfold State.askNow
    rw [empty]
  · have other := askNow_of_other head held recovering
    refine ⟨fun e => ?_, fun e => ?_, fun t e moving => ?_, fun i e => ?_⟩ <;> subst e
    · exact other nofun
    · exact other nofun
    · exact (other nofun).trans (by simp [State.amount, moving])
    · have asked := askNow_of_socket head held recovering
      exact ⟨fun carry => asked.trans (if_pos ((railsCarry_iff s).mpr carry)),
        fun ⟨r, up, retargeting⟩ => asked.trans (if_neg (fun carry => ((railsCarry_iff s).mp carry r).elim up retargeting))⟩
  · unfold State.levelInForce
    rw [still]
  · cases stage : t.stage <;> simp [State.levelInForce, moving, stage]
  · unfold State.doneVote
    rw [beq_eq_false_iff_ne.mpr off, Bool.false_and]
  · rw [buildFrame_of_build transmits start whole unsent, settleTransition_of_due head moving, if_pos due]

/-! ### The end of the own frame -/

theorem stationOf_of_slot {k : Station} {slot : Slot} (h : stationSlot k = slot.val) : stationOf slot = some k := by
  unfold stationOf
  have lower : 2 ≤ slot.val := by rw [← h]; exact Nat.le_add_left 2 k.val
  rw [dif_pos lower]
  exact congrArg some (Fin.ext (by show slot.val - 2 = k.val; rw [← h]; exact Nat.add_sub_cancel k.val 2))

theorem stationOf_of_low {slot : Slot} (h : slot.val < 2) : stationOf slot = none := dif_neg (by omega)

/-- Settles O22: the ends of a frame by its place on the bus. -/
theorem readbackDecidesTheFrame : Obligations.ReadbackDecidesTheFrame := by
  intro s shown
  have ended : s.sends = true → s.biu.txClock = s.frameTicks → ¬s.frameEnded = false := fun sends whole open_ => by
    rw [State.frameEnded, sends, whole, beq_self_eq_true] at open_
    cases open_
  refine ⟨fun early => congrArg Host.Outcome.next ?_, fun carried => ⟨congrArg Host.Outcome.next ?_, fun whole =>
    congrArg Host.Outcome.next ?_⟩, fun sending => ⟨⟨congrArg Host.Outcome.next ?_, fun t stopped => congrArg Host.Outcome.next ?_⟩,
      fun k r whole own spelled => congrArg Host.Outcome.next ?_⟩⟩
  · refine State.endFrame_of_not_ended s ?_
    rw [State.frameEnded, beq_eq_false_iff_ne.mpr early, Bool.and_false]
  · unfold State.stopFrame
    rw [carried]
  · unfold State.endFrame
    rw [if_neg (ended (sends_iff.mpr (Or.inr carried)) whole), carried]
    rfl
  · unfold State.stopFrame
    rw [sending]
  · have next : t = { s with biu := { s.biu with tx := .stoppedByReadback } } := by
      have := Host.Outcome.next.inj stopped
      rw [← this]
      unfold State.stopFrame
      rw [sending]
    rw [next]
    exact State.endFrame_of_not_ended _ rfl
  · unfold State.endFrame
    rw [if_neg (ended (sends_iff.mpr (Or.inl sending)) whole), sending]
    dsimp only
    unfold State.hearOwn
    have station : stationOf (State.slot { s.showHead with biu := { s.biu with tx := .sentWhole } }) = some k :=
      stationOf_of_slot own
    have report : parseStatus (State.slot { s.showHead with biu := { s.biu with tx := .sentWhole } }).val s.biu.txFrame = some r :=
      spelled
    rw [station]
    dsimp only
    rw [report, ← own]
    rfl

/-! ### Frames received -/

/-- A frame of an open slot is judged by its place, then by its bytes (R12). -/
theorem hearFrame_of_open {s : State} {slot : Slot} (bytes : List Byte) (running : s.running = true)
    (synced : s.biu.synced = true) (whole : s.biu.rxBroken ≠ some slot) (other : s.transmits = true → slot ≠ s.slot)
    (new : s.biu.received.getLsbD slot.val = false) :
    s.hearFrame slot bytes = if s.inSlot slot.val (frameLength slot bytes) = false then s
      else match stationOf slot with
        | none => s.hearCommand slot.val bytes
        | some k => s.hearStatus k bytes := by
  have receives : s.receives = true := by rw [State.receives, running, synced]; rfl
  have notOwn : ¬(s.transmits && slot == s.slot) = true := fun h => by
    rw [Bool.and_eq_true, beq_iff_eq] at h
    exact other h.1 h.2
  unfold State.hearFrame
  have hears : ¬s.receives = false := by rw [receives]; decide
  have empty : ¬s.biu.received.getLsbD slot.val = true := by rw [new]; decide
  exact (if_neg hears).trans ((if_neg whole).trans ((if_neg notOwn).trans (if_neg empty)))

/-- The place of a frame of `n` bytes by the round timer (R2, R3, R12). -/
theorem inSlot_iff_inside (s : State) (slot n : Nat) : s.inSlot slot n = true ↔
    40 * (slot * (s.prof.period * 1000) / 32) + 10 * n * bitTicks s.rate ≤
      40 * (s.prof.period * 1000 - s.biu.roundTimer) + s.biu.usPhase ∧
    40 * (s.prof.period * 1000 - s.biu.roundTimer) + s.biu.usPhase < 40 * ((slot + 1) * (s.prof.period * 1000) / 32) := by
  rw [State.inSlot_iff]
  unfold State.elapsed State.slotBegin
  simp only [usTicks_eq]
  rw [Nat.mul_comm n 10, Nat.mul_comm 40, Nat.mul_comm 40, Nat.mul_comm 40]

theorem inSlot_false_of_not {s : State} {slot n : Nat} {p : Prop} (place : s.inSlot slot n = true ↔ p) (out : ¬p) :
    s.inSlot slot n = false := Bool.eq_false_iff.mpr (fun h => out (place.mp h))

theorem statusBody_length (flags : Nat) :
    statusBody flags + 2 = 30 + (if bitOf flags 5 then 14 else 0) + (if bitOf flags 4 then 24 else 0) := by
  unfold statusBody
  omega

/-- Settles O23: the place, then the check, of a frame in a station slot. -/
theorem statusFrameIsRecordedForItsSlot : Obligations.StatusFrameIsRecordedForItsSlot := by
  intro s slot k bytes running synced whole own other new flags length now inside
  have heard := hearFrame_of_open bytes running synced whole other new
  have bytesLong : frameLength slot bytes = length := by
    unfold frameLength
    rw [if_neg (by rw [← own]; unfold stationSlot; omega), statusBody_length]
  have place : s.inSlot slot.val (frameLength slot bytes) = true ↔ inside := by
    rw [bytesLong]
    exact inSlot_iff_inside s slot.val length
  rw [stationOf_of_slot own] at heard
  refine ⟨fun r within spelled => congrArg Host.Outcome.next (heard.trans ?_), fun bad => congrArg Host.Outcome.next (heard.trans ?_)⟩
  · rw [if_neg (by rw [place.mpr within]; decide)]
    show s.hearStatus k bytes = _
    unfold State.hearStatus
    rw [own, spelled, ← own]
    rfl
  · by_cases within : inside
    · rw [if_neg (by rw [place.mpr within]; decide)]
      show s.hearStatus k bytes = _
      unfold State.hearStatus
      rw [own, bad.resolve_left (fun out => out within)]
    · exact if_pos (inSlot_false_of_not place within)

/-- Settles O25: the mark of a broken frame, set and taken away. -/
theorem brokenFrameIsNotReceived : Obligations.BrokenFrameIsNotReceived := by
  intro s slot running synced
  have receives : s.receives = true := by rw [State.receives, running, synced]; rfl
  refine ⟨congrArg Host.Outcome.next (if_pos receives), fun broken => ⟨fun bytes => congrArg Host.Outcome.next ?_,
    congrArg Host.Outcome.next (if_pos broken)⟩, fun whole => congrArg Host.Outcome.next (if_neg whole)⟩
  unfold State.hearFrame
  rw [if_neg (by rw [receives]; decide), if_pos broken]
  rfl

/-! ### Command frames -/

theorem parseCommand_some {slot : Nat} {bytes : List Byte} {f : CommandFrame} (spelled : parseCommand slot bytes = some f) :
    f.args.length = byteAt bytes 8 := by
  unfold parseCommand at spelled
  dsimp only at spelled
  split at spelled
  · next h =>
    cases spelled
    obtain ⟨-, -, -, long, -⟩ := h
    simp only [List.length_take, List.length_drop]
    omega
  · cases spelled

/-- A command of good form goes to its rule (R162). -/
theorem takeCommand_of_formOk (s : State) {broadcast : Bool} {code : Byte} {args : List Byte}
    (good : formOk broadcast code.toNat args.length = true) :
    s.takeCommand broadcast code args = s.dispatchCommand code.toNat args := if_pos good

/-- Settles O24: the place of the frame, its address, and the rule its code names. -/
theorem commandFrameActsAsItsRow : Obligations.CommandFrameActsAsItsRow := by
  intro s slot bytes f running synced whole low other new spelled now inside heard
  have hears := hearFrame_of_open bytes running synced whole other new
  have bytesLong : frameLength slot bytes = 11 + f.args.length := by
    unfold frameLength
    rw [if_pos low, parseCommand_some spelled]
  have place : s.inSlot slot.val (frameLength slot bytes) = true ↔ inside := by
    rw [bytesLong]
    exact inSlot_iff_inside s slot.val (11 + f.args.length)
  rw [stationOf_of_low low] at hears
  have taken : inside → s.hearFrame slot bytes =
      if s.transmits && s.addressed f.target then heard.takeCommand (f.target == 255) f.code f.args else heard := fun within => by
    rw [hears, if_neg (by rw [place.mpr within]; decide)]
    show s.hearCommand slot.val bytes = _
    unfold State.hearCommand
    rw [spelled]
    rfl
  refine ⟨fun out => congrArg Host.Outcome.next (hears.trans (if_pos (inSlot_false_of_not place out))), fun within deaf =>
    congrArg Host.Outcome.next ((taken within).trans (if_neg ?_)), fun within transmits address => ?_⟩
  · intro h
    simp only [Bool.and_eq_true, State.addressed, Bool.or_eq_true, beq_iff_eq] at h
    rcases deaf with mute | ⟨notOwn, notAll⟩
    · rw [mute] at h; cases h.1
    · exact h.2.elim notOwn notAll
  · have addressed : (s.transmits && s.addressed f.target) = true := by
      simp only [Bool.and_eq_true, State.addressed, Bool.or_eq_true, beq_iff_eq]
      exact ⟨transmits, address⟩
    have acts := (taken within).trans (if_pos addressed)
    have good : ∀ (code : Nat), f.code.toNat = code → formOk (f.target == 255) code f.args.length = true →
        s.hearFrame slot bytes = heard.dispatchCommand code f.args := fun code same good => by
      rw [acts, takeCommand_of_formOk heard (by rw [same]; exact good), same]
    have numbered : ∀ n : Nat, n < 256 → f.code = BitVec.ofNat 8 n → f.code.toNat = n := fun n small same => by
      rw [same, BitVec.toNat_ofNat]; exact Nat.mod_eq_of_lt small
    refine ⟨fun code args => ?_, fun code args => ?_, fun code args => ?_, fun code args => ?_, fun q code args => ?_,
      fun code args => ?_, fun b code args one => ?_, fun b code args one => ?_, fun b code args one => ?_,
      fun code args one => ?_, fun code args => ?_, fun bad => ?_⟩ <;> refine congrArg Host.Outcome.next ?_
    · exact good 1 (numbered 1 (by decide) code) (by rw [args]; cases f.target == 255 <;> rfl)
    · exact good 2 (numbered 2 (by decide) code) (by rw [args]; cases f.target == 255 <;> rfl)
    · exact good 3 (numbered 3 (by decide) code) (by rw [args]; cases f.target == 255 <;> rfl)
    · exact good 4 (numbered 4 (by decide) code) (by rw [args]; cases f.target == 255 <;> rfl)
    · rw [good 5 (numbered 5 (by decide) code) (by rw [args]; cases f.target == 255 <;> rfl), args]
      rfl
    · exact good 6 (numbered 6 (by decide) code) (by rw [args]; cases f.target == 255 <;> rfl)
    · rw [good 7 (numbered 7 (by decide) code) (by rw [args, beq_eq_false_iff_ne.mpr one]; rfl), args]
      rfl
    · rw [good 8 (numbered 8 (by decide) code) (by rw [args, beq_eq_false_iff_ne.mpr one]; rfl), args]
      rfl
    · rw [good 9 (numbered 9 (by decide) code) (by rw [args, beq_eq_false_iff_ne.mpr one]; rfl), args]
      rfl
    · exact good 10 (numbered 10 (by decide) code) (by rw [args, beq_eq_false_iff_ne.mpr one]; rfl)
    · exact good 11 (numbered 11 (by decide) code) (by rw [args]; cases f.target == 255 <;> rfl)
    · rw [acts]
      exact if_neg (by rw [bad]; decide)

end Sys2Proof.Machine
end

section
/-! SUPPORT. The commands: their checks in order, and what each that is taken changes (R28 to R51, R144 to R148, R158 to
R165). -/

namespace Sys2Proof.Machine

/-! ### The checks -/

section
variable {s : State} {code : BitVec 4} {inState valid : Bool} {effect : State × CmdResult}

theorem judged_of_mute (mute : s.transmits = false) : s.judged code inState valid effect = s := if_pos mute

theorem judged_of_state (on : s.transmits = true) (state : inState = false) :
    s.judged code inState valid effect = s.report code .refusedState := by
  unfold State.judged
  rw [if_neg (by rw [on]; decide), if_pos state]

theorem judged_of_value (on : s.transmits = true) (state : inState = true) (value : valid = false) :
    s.judged code inState valid effect = s.report code .refusedArg := by
  unfold State.judged
  rw [if_neg (by rw [on]; decide), if_neg (by rw [state]; decide), if_pos value]

theorem judged_of_good (on : s.transmits = true) (state : inState = true) (value : valid = true) :
    s.judged code inState valid effect = effect.1.report code effect.2 := by
  unfold State.judged
  rw [if_neg (by rw [on]; decide), if_neg (by rw [state]; decide), if_neg (by rw [value]; decide)]

end

theorem transmits_of_idle {s : State} (h : s.rcu.state = .idle) : s.transmits = true := by simp [State.transmits, h]

theorem transmits_of_active {s : State} (h : s.rcu.state = .active) : s.transmits = true := by simp [State.transmits, h]

theorem transmits_of_done {s : State} (h : s.rcu.state = .done) : s.transmits = true := by simp [State.transmits, h]

/-- In a transmitting state some row of R164 that lists every such state is taken. -/
theorem takenIn_every {s : State} (on : s.transmits = true) :
    (s.rcu.state == .idle || s.rcu.state == .active || s.rcu.state == .windDown || s.rcu.state == .done) = true := by
  unfold State.transmits at on
  revert on
  cases s.rcu.state <;> decide

/-- A command row is its checks and its effect, and its state check is its row of R164. -/
theorem exec_command (s : State) (c : Instr) (code : BitVec 4) (command : c.commandCode = some code) :
    ∃ (inState valid : Bool) (effect : State × CmdResult), exec c s = .next (s.judged code inState valid effect) ∧
      (s.transmits = true → c.takenIn s.rcu.state = inState) := by
  cases c <;> cases command
  case cmdPlan => exact ⟨_, _, _, rfl, fun _ => rfl⟩
  case cmdStart => exact ⟨_, _, _, rfl, fun _ => rfl⟩
  case cmdAdvance => exact ⟨_, _, _, rfl, fun _ => rfl⟩
  case cmdAbort => exact ⟨_, _, _, rfl, fun _ => rfl⟩
  case cmdExclude => exact ⟨_, _, _, rfl, fun _ => rfl⟩
  case cmdInclude => exact ⟨_, _, _, rfl, fun _ => rfl⟩
  case cmdClear => exact ⟨_, _, _, rfl, fun _ => rfl⟩
  case cmdHold => exact ⟨_, _, _, rfl, takenIn_every⟩
  case cmdResume => exact ⟨_, _, _, rfl, takenIn_every⟩
  case cmdRead => exact ⟨_, _, _, rfl, takenIn_every⟩
  case cmdTake => exact ⟨_, _, _, rfl, takenIn_every⟩

/-- Settles O26: the first checks of every row, and the form check's report. -/
theorem refusedCommandsOnlyReport : Obligations.RefusedCommandsOnlyReport := by
  intro s
  refine ⟨fun c code command => ?_, fun code => ⟨fun mute => ?_, fun on least most => ?_, fun on unassigned => ?_⟩⟩
  · obtain ⟨inState, valid, effect, row, taken⟩ := exec_command s c code command
    rw [row]
    exact ⟨fun mute => congrArg Host.Outcome.next (judged_of_mute mute),
      fun on out => congrArg Host.Outcome.next (judged_of_state on ((taken on).symm.trans out))⟩
  · exact congrArg Host.Outcome.next (if_pos mute)
  · refine congrArg Host.Outcome.next ((if_neg (by rw [on]; decide)).trans ?_)
    rw [reportedCode, if_pos ⟨least, most⟩]
    rfl
  · refine congrArg Host.Outcome.next ((if_neg (by rw [on]; decide)).trans ?_)
    rw [reportedCode, if_neg]
    · rfl
    · rintro ⟨least, most⟩
      rcases unassigned with zero | high
      · rw [zero] at least; exact absurd least (by decide)
      · omega

/-! ### START, ADVANCE, READ, HOLD and RESUME -/

theorem advances_iff (s : State) (q : Nat) : s.advances q = true ↔ s.rcu.phase = q ∨ ∃ t, s.rcu.transit = some t ∧ t.target = q := by
  unfold State.advances
  cases s.rcu.transit <;> simp

/-- The socket that a byte names. -/
theorem socketOf_of_val {b : Byte} {i : Socket} (h : b.toNat = i.val) : socketOf b = i :=
  Fin.ext (by show b.toNat % 16 = i.val; rw [h]; exact Nat.mod_eq_of_lt i.isLt)

theorem le_fifteen_of_val {b : Byte} {i : Socket} (h : b.toNat = i.val) : decide (b.toNat ≤ 15) = true := by
  have := i.isLt
  exact decide_eq_true (by omega)

/-- Settles O29: each command past its checks. -/
theorem startAdvanceAndReadAreHeld : Obligations.StartAdvanceAndReadAreHeld := by
  refine ⟨fun s idle => ?_, fun s q active => ?_, fun s b on => ?_⟩
  · have on := transmits_of_idle idle
    have state : s.isIdle = true := beq_iff_eq.mpr idle
    exact ⟨fun complete => congrArg Host.Outcome.next (judged_of_good on state complete),
      fun incomplete => congrArg Host.Outcome.next (judged_of_value on state incomplete)⟩
  · have on := transmits_of_active active
    have state : s.isActive = true := beq_iff_eq.mpr active
    refine ⟨fun high => ?_, fun low names => ?_, fun low phase transit => ?_⟩ <;> refine congrArg Host.Outcome.next ?_
    · exact judged_of_value on state (decide_eq_false (by omega))
    · refine (judged_of_good on state (decide_eq_true low)).trans ?_
      rw [if_pos ((advances_iff s _).mpr names)]
      rfl
    · refine (judged_of_good on state (decide_eq_true low)).trans ?_
      rw [if_neg]
      · rfl
      · rw [advances_iff]
        rintro (here | ⟨t, moving, there⟩)
        · exact phase here
        · exact transit t moving there
  · refine ⟨fun high => ?_, fun i names => ?_⟩ <;> refine congrArg Host.Outcome.next ?_
    · exact judged_of_value on rfl (decide_eq_false (by omega))
    · refine (judged_of_good on rfl (le_fifteen_of_val names)).trans ?_
      rw [socketOf_of_val names]
      rfl

/-- Settles O30: the three sources of the hold flag. -/
theorem holdSourcesSetTheHoldFlag : Obligations.HoldSourcesSetTheHoldFlag := by
  intro s
  refine ⟨fun on => ⟨congrArg Host.Outcome.next (judged_of_good on rfl rfl), congrArg Host.Outcome.next (judged_of_good on rfl rfl)⟩,
    fun _ => rfl, ?_⟩
  simp [State.holdFlag, or_assoc]

/-! ### TAKE and CLEAR -/

theorem mapRecords_frame (s : State) (f : Socket → SocketRecord → SocketRecord) : ∃ records : Vector SocketRecord 16,
    s.mapRecords f = { s with acu := { s.acu with records := records } } ∧ ∀ i : Socket, records[i] = f i s.acu.records[i] :=
  ⟨(s.mapRecords f).acu.records, rfl, State.mapRecords_records s f⟩

theorem mapHeaters_frame (s : State) (f : Socket → Heater → Heater) : ∃ heaters : Vector Heater 16,
    s.mapHeaters f = { s with thu := { s.thu with heaters := heaters } } ∧ ∀ i : Socket, heaters[i] = f i s.thu.heaters[i] :=
  ⟨(s.mapHeaters f).thu.heaters, rfl, State.mapHeaters_heaters s f⟩

/-- What CLEAR resets, the records and the heaters socket by socket (R51, R110, R130, R148, R159). -/
theorem clearStation_frame (s : State) : ∃ (records : Vector SocketRecord 16) (heaters : Vector Heater 16),
    s.clearStation = { s with
      rcu := { s.rcu with state := .idle, sub := none, phase := 0, intCount := 0, lateMark := none, endCause := none
                          startPending := false }
      biu := { s.biu with unheardStreak := 0, sinceUnheard := 0, txShowsHead := false }
      thu := { s.thu with heaters := heaters }
      ptu := { s.ptu with passIndex := 0, reentryLeft := 0, sigs := Vector.replicate 16 0xFFFF }
      acu := { s.acu with records := records, history := [], overflow := false, shown := false } } ∧
    ∀ i : Socket, heaters[i] = { s.thu.heaters[i] with sensorStreak := 0 } ∧
      records[i] = s.acu.records[i].cleared (s.prof.enableMask.getLsbD i.val) := by
  obtain ⟨records, cleared, record⟩ := mapRecords_frame s (fun i r => r.cleared (s.prof.enableMask.getLsbD i.val))
  obtain ⟨heaters, reset, heater⟩ :=
    mapHeaters_frame { s with acu := { s.acu with records := records } } (fun _ h => { h with sensorStreak := 0 })
  refine ⟨records, heaters, ?_, fun i => ⟨heater i, record i⟩⟩
  unfold State.clearStation
  rw [cleared]
  dsimp only
  rw [reset]

/-- Settles O33: the marked head taken, and the station cleared. -/
theorem takeAndClearEmptyTheHistory : Obligations.TakeAndClearEmptyTheHistory := by
  refine ⟨fun s on => ⟨fun e rest head shown => ?_, fun unmarked => ?_⟩, fun s rests => ?_⟩
  · refine ⟨_, congrArg Host.Outcome.next (judged_of_good on rfl rfl), ?_⟩
    have taken : s.takeHead = ({ s with acu := { s.acu with history := rest, shown := false }
                                        biu := { s.biu with txShowsHead := false } }, .accepted) := by
      unfold State.takeHead
      rw [if_pos ⟨shown, by rw [head]; exact List.cons_ne_nil e rest⟩, head]
      rfl
    rw [taken]
    exact ⟨rfl, rfl⟩
  · refine congrArg Host.Outcome.next ((judged_of_good on rfl rfl).trans ?_)
    have left : s.takeHead = (s, .ignored) := if_neg (fun h => by
      rcases unmarked with empty | plain
      · exact h.2 empty
      · rw [plain] at h; exact absurd h.1 (by decide))
    rw [left]
    rfl
  · have on : s.transmits = true := rests.elim transmits_of_idle transmits_of_done
    have state : (s.rcu.state == .idle || s.rcu.state == .done) = true := by
      rcases rests with h | h <;> rw [h] <;> rfl
    refine ⟨_, congrArg Host.Outcome.next (judged_of_good on state rfl), ?_⟩
    obtain ⟨records, heaters, cleared, each⟩ := clearStation_frame s
    rw [cleared]
    refine ⟨rfl, rfl, rfl, rfl, rfl, rfl, rfl, rfl, rfl, rfl, rfl, rfl, rfl, ?_, rfl, rfl, fun i => ⟨by simp, each i⟩, rfl, rfl,
      rfl, rfl, rfl, rfl, rfl, rfl, rfl, rfl⟩
    refine List.any_eq_false.mpr (fun i _ => ?_)
    show ¬(records[i].state == .failed) = true
    rw [(each i).2]
    unfold SocketRecord.cleared
    split <;> simp

/-! ### EXCLUDE and INCLUDE -/

/-- A socket that loses its allowance has the power side of one never closed (R65, R90). -/
theorem dropped_sockets (s : State) (i : Socket) :
    ((s.dropSocket i).releaseAllowance i).rlu.sockets = s.rlu.sockets.set i SocketPower.initial := by
  have rlu := dropSocket_rlu s i
  unfold State.releaseAllowance
  generalize s.dropSocket i = u at rlu
  simp only [State.modPower, State.release, rlu, Fin.getElem_fin, Vector.getElem_set_self, Vector.set_set]
  rfl

/-- What excluding a socket that holds an allowance changes (R90, R144). -/
theorem excludeSocket_of_holds {s : State} {i : Socket} (holds : (s.socketState i).holds = true) :
    s.excludeSocket i = (((s.dropSocket i).releaseAllowance i).modRecord i SocketRecord.exclude, .accepted) := by
  unfold State.excludeSocket
  revert holds
  cases s.socketState i <;> intro holds
  case powering | settled | running | retry => rfl
  case off | parked | failed | excluded => cases holds

/-- Settles O32: each socket state's effect. -/
theorem excludeAndIncludeFollowTheSocketState : Obligations.ExcludeAndIncludeFollowTheSocketState := by
  intro s b i
  refine ⟨fun runs => ?_, fun idle => ?_⟩
  · have on : s.transmits = true := runs.elim transmits_of_idle transmits_of_active
    have state : (s.isIdle || s.isActive) = true := by
      unfold State.isIdle State.isActive
      rcases runs with h | h <;> rw [h] <;> rfl
    refine ⟨fun high => congrArg Host.Outcome.next (judged_of_value on state (decide_eq_false (by omega))), fun names => ?_⟩
    have takes : exec (.cmdExclude b) s = .next ((s.excludeSocket i).1.report 7 (s.excludeSocket i).2) := by
      refine congrArg Host.Outcome.next ((judged_of_good on state (le_fifteen_of_val names)).trans ?_)
      rw [socketOf_of_val names]
    rw [takes]
    refine ⟨fun free => ?_, fun holds order none => ?_, fun excluded => ?_, fun failed => ?_⟩
    · refine congrArg Host.Outcome.next ?_
      unfold State.excludeSocket
      rcases free with h | h <;> rw [h] <;> rfl
    · refine ⟨_, rfl, ?_⟩
      rw [excludeSocket_of_holds holds]
      have drops : s.dropsSocket (s.dropSocket i) i 0 := dropSocket_drops s s.acu i rfl rfl (fun _ _ => rfl)
      have acu := dropSocket_acu s i
      have rlu := dropSocket_rlu s i
      have sockets := dropped_sockets s i
      generalize s.dropSocket i = u at drops acu rlu sockets
      obtain ⟨-, cold, onTime, -, -, -, bdu, ptu, -, -, -, -, rcu, biu, -, -⟩ := drops
      rw [none, Bool.false_and] at bdu
      have allowance : u.rlu.sockets[i].allowance = s.rlu.sockets[i].allowance := by
        rw [rlu, State.modPower_sockets, if_pos rfl]
        rfl
      refine ⟨rfl, rfl, ?_, sockets, ?_, cold order, onTime, ?_, ?_, rcu, biu⟩
      · show u.acu.records.set i (u.acu.records[i].exclude) = _
        rw [acu]
        rfl
      · show ({ u.bdu with ownHeld := u.bdu.ownHeld - u.rlu.sockets[i].allowance } : Bdu) = _
        rw [allowance, bdu]
        rfl
      · show u.ptu.members = _
        rw [ptu]
      · show u.acu.history = _
        rw [acu]
    · refine congrArg Host.Outcome.next ?_
      unfold State.excludeSocket
      rw [excluded]
      rfl
    · refine congrArg Host.Outcome.next ?_
      unfold State.excludeSocket
      rw [failed]
      rfl
  · have on := transmits_of_idle idle
    have state : s.isIdle = true := beq_iff_eq.mpr idle
    refine ⟨fun high => congrArg Host.Outcome.next (judged_of_value on state (decide_eq_false (by omega))), fun names => ?_⟩
    have takes : exec (.cmdInclude b) s = .next ((s.includeSocket i).1.report 8 (s.includeSocket i).2) := by
      refine congrArg Host.Outcome.next ((judged_of_good on state (le_fifteen_of_val names)).trans ?_)
      rw [socketOf_of_val names]
    rw [takes]
    refine ⟨fun excluded source => ?_, fun excluded source => ?_, fun off => ?_⟩ <;> refine congrArg Host.Outcome.next ?_ <;>
      unfold State.includeSocket
    · rw [excluded, source]; rfl
    · rw [excluded, source]; rfl
    · rw [off]; rfl

end Sys2Proof.Machine
end

section
/-! SUPPORT. The plan: its completeness and code, an entry stored, and an entry's fourteen bytes (R28, R29, R181, R186, R188). -/

namespace Sys2Proof.Machine

/-! ### The plan held -/

theorem Rcu.entry_eq (r : Rcu) (p : Nat) : r.entry p = if h : p < 12 then r.plan[p] else none := by
  unfold Rcu.entry
  rw [List.getD_eq_getElem?_getD]
  split
  · next h => rw [List.getElem?_eq_getElem (by simpa using h)]; simp
  · next h => rw [List.getElem?_eq_none (by simpa using h)]; rfl

/-- The first entry held carries the plan length. -/
theorem Rcu.planLength_of_first {r : Rcu} {e : PlanEntry} (h : r.entry 0 = some e) : r.planLength = e.length := by
  unfold Rcu.entry at h
  unfold Rcu.planLength
  generalize r.plan.toList = entries at *
  cases entries with
  | nil => cases h
  | cons a rest =>
    have first : a = some e := h
    simp [first]

theorem Rcu.planComplete_iff (r : Rcu) :
    r.planComplete = true ↔ ∃ n, 0 < n ∧ ∀ p, p < n → ∃ e, r.entry p = some e ∧ e.length = n := by
  have spelled : r.planComplete = true ↔ 0 < r.planLength ∧ ∀ p < r.planLength, ∃ e, r.entry p = some e ∧ e.length = r.planLength := by
    simp [Rcu.planComplete, Option.any_eq_true]
  rw [spelled]
  refine ⟨fun h => ⟨_, h⟩, fun ⟨n, positive, all⟩ => ?_⟩
  obtain ⟨e, first, length⟩ := all 0 positive
  have same : r.planLength = n := (Rcu.planLength_of_first first).trans length
  rw [same]
  exact ⟨positive, all⟩

theorem Rcu.codeOfPlan_of_entries {r : Rcu} {n : Nat} {entries : Nat → PlanEntry} (positive : 0 < n)
    (all : ∀ p, p < n → r.entry p = some (entries p) ∧ (entries p).length = n) :
    r.codeOfPlan = crc ((List.range n).flatMap (fun p => (entries p).bytes)) := by
  have complete : r.planComplete = true := r.planComplete_iff.mpr ⟨n, positive, fun p h => ⟨_, all p h⟩⟩
  have same : r.planLength = n := (Rcu.planLength_of_first (all 0 positive).1).trans (all 0 positive).2
  unfold Rcu.codeOfPlan
  rw [if_pos complete, same]
  refine congrArg crc (List.flatMap_congr (fun p mem => ?_))
  rw [(all p (List.mem_range.mp mem)).1]
  rfl

/-- An entry stored stands under its index, beside the entries held of the same length (R29). -/
theorem Rcu.storeEntry_entry (r : Rcu) (e : PlanEntry) (j : Nat) (inPlan : e.index < 12) :
    (r.storeEntry e).entry j = if j = e.index then some e
      else if r.planLength = e.length then r.entry j else none := by
  rw [Rcu.entry_eq, Rcu.entry_eq]
  unfold Rcu.storeEntry
  by_cases h : j < 12
  · rw [dif_pos h, dif_pos h]
    by_cases here : j = e.index
    · simp [here]
    · by_cases same : r.planLength = e.length <;> simp [here, same]
  · rw [dif_neg h, dif_neg h, if_neg (by omega)]
    split <;> rfl

theorem PlanEntry.inRange_iff (e : PlanEntry) : e.inRange = true ↔ 1 ≤ e.length ∧ e.length ≤ 12 ∧ e.index < e.length ∧
    -80 ≤ e.lo ∧ e.lo < e.hi ∧ e.hi ≤ 430 ∧ 1 ≤ e.clockWord ∧ e.clockWord ≤ 4194304 ∧ 1 ≤ e.minutes ∧ e.minutes ≤ 65535 := by
  simp [PlanEntry.inRange, and_assoc]

/-- What an entry that reads says of its bytes (R28, R186, R188). -/
theorem parsePlan_some {loops : Nat} {args : List Byte} {e : PlanEntry} (h : parsePlan loops args = some e) :
    bitOf (byteAt args 5) 6 = false ∧ bitOf (byteAt args 6) 7 = false ∧ bitOf (byteAt args 6) 6 = false ∧
    polarityOf (byteAt args 6 / 16 % 4) = some e.sequence ∧ patternOf loops (byteAt args 6 % 16) = some e.pattern ∧
    e.inRange = true ∧
    e = { index := byteAt args 0 / 16, length := byteAt args 0 % 16, lo := s16At args 1, hi := s16At args 3,
          levelA := levelOf (byteAt args 5 / 16), levelB := levelOf (byteAt args 5 / 4), levelC := levelOf (byteAt args 5),
          pattern := e.pattern, staticDrive := args.getD 7 0, clockWord := u32At args 8, sequence := e.sequence,
          minutes := u16At args 12, heater := bitOf (byteAt args 5) 7 } := by
  unfold parsePlan at h
  dsimp only at h
  split at h
  · cases h
  · next clear =>
    simp only [Bool.or_eq_true, not_or, Bool.not_eq_true] at clear
    obtain ⟨⟨five, seven⟩, six⟩ := clear
    split at h
    · next seq pat polarity pattern =>
      split at h
      · next good =>
        cases h
        exact ⟨five, seven, six, polarity, pattern, good, rfl⟩
      · cases h
    · cases h

/-- The CRC's check value (R181). -/
theorem crc_check_value : crc [0x31, 0x32, 0x33, 0x34, 0x35, 0x36, 0x37, 0x38, 0x39] = 0x29B1 := by decide +kernel

/-- Settles O27: the plan's completeness and code, and the entry stored. -/
theorem planStoresAnAcceptedEntry : Obligations.PlanStoresAnAcceptedEntry := by
  refine ⟨crc_check_value, fun r => ⟨r.planComplete_iff, fun incomplete => ?_, fun n entries positive all =>
    Rcu.codeOfPlan_of_entries positive all⟩, fun s args idle => ⟨fun e spelled => ?_, fun bad => ?_⟩⟩
  · unfold Rcu.codeOfPlan
    rw [if_neg (by rw [incomplete]; decide)]
  · have good : (parsePlan s.prof.loops.length args).isSome = true := by rw [spelled]; rfl
    refine ⟨_, congrArg Host.Outcome.next (judged_of_good (transmits_of_idle idle) (beq_iff_eq.mpr idle) good), ?_⟩
    rw [spelled]
    obtain ⟨-, most, inside, -⟩ := e.inRange_iff.mp (parsePlan_some spelled).2.2.2.2.2.1
    have stored := fun j => s.rcu.storeEntry_entry e j (by omega)
    refine ⟨rfl, ?_, fun j other => ?_, rfl⟩
    · exact (stored e.index).trans (if_pos rfl)
    · exact (stored j).trans (if_neg other)
  · have none : (parsePlan s.prof.loops.length args).isSome = false := by rw [bad]; rfl
    exact congrArg Host.Outcome.next (judged_of_value (transmits_of_idle idle) (beq_iff_eq.mpr idle) none)

/-! ### Bytes and fields -/

theorem toNat_ofNat_byte {n : Nat} (h : n < 256) : (BitVec.ofNat 8 n).toNat = n := by
  rw [BitVec.toNat_ofNat]; exact Nat.mod_eq_of_lt h

/-- A two-byte field as stored reads back (R181). -/
theorem u16_of_bytes {n : Nat} (h : n < 65536) :
    (BitVec.ofNat 8 (n / 256)).toNat * 256 + (BitVec.ofNat 8 n).toNat = n := by
  simp only [BitVec.toNat_ofNat]
  omega

/-- A four-byte field as stored reads back (R181). -/
theorem u32_of_bytes {n : Nat} (h : n < 2 ^ 32) :
    ((BitVec.ofNat 8 (n / 65536 / 256)).toNat * 256 + (BitVec.ofNat 8 (n / 65536)).toNat) * 65536 +
      ((BitVec.ofNat 8 (n / 256)).toNat * 256 + (BitVec.ofNat 8 n).toNat) = n := by
  simp only [BitVec.toNat_ofNat]
  omega

/-- A signed two-byte field as stored reads back (R181). -/
theorem s16_of_bytes {t : Int} (least : -32768 ≤ t) (most : t < 32768) :
    (BitVec.ofNat 16 ((BitVec.ofNat 8 ((BitVec.ofInt 16 t).toNat / 256)).toNat * 256 +
      (BitVec.ofNat 8 (BitVec.ofInt 16 t).toNat).toNat)).toInt = t := by
  rw [u16_of_bytes (BitVec.isLt _), BitVec.ofNat_toNat, BitVec.setWidth_eq, BitVec.toInt_ofInt]
  exact Int.bmod_eq_of_le (by omega) (by omega)

/-- A byte is told by its value. -/
theorem byte_of_toNat {n : Nat} {b : Byte} (h : n % 256 = b.toNat) : BitVec.ofNat 8 n = b :=
  BitVec.eq_of_toNat_eq (by rw [BitVec.toNat_ofNat]; exact h)

/-! ### A plan entry's bytes -/

theorem PolaritySequence.code_lt (q : PolaritySequence) : q.code < 3 := by cases q <;> decide

theorem polarityOf_code (q : PolaritySequence) : polarityOf q.code = some q := by cases q <;> rfl

theorem code_of_polarityOf {n : Nat} {q : PolaritySequence} (h : polarityOf n = some q) : q.code = n := by
  unfold polarityOf at h
  split at h <;> cases h <;> rfl

theorem patternOf_code {loops : Nat} {p : Pattern} (defined : ∀ k, p = .loop k → k < 8 ∧ k < loops) :
    patternOf loops p.code = some p ∧ p.code < 16 := by
  cases p with
  | static => exact ⟨rfl, by decide⟩
  | loop k =>
    obtain ⟨eight, count⟩ := defined k rfl
    have other : ¬k = 15 := by omega
    exact ⟨by simp [patternOf, Pattern.code, other, eight, count], by show k < 16; omega⟩

theorem code_of_patternOf {loops n : Nat} {p : Pattern} (h : patternOf loops n = some p) :
    p.code = n ∧ (∀ k, p = .loop k → k < 8 ∧ k < loops) ∧ (n = 15 ∨ (n < 8 ∧ n < loops)) := by
  unfold patternOf at h
  split at h
  · next fifteen => cases h; exact ⟨fifteen.symm, nofun, Or.inl fifteen⟩
  · split at h
    · next small => cases h; exact ⟨rfl, fun k e => by cases e; exact small, Or.inr small⟩
    · cases h

/-- The levels' byte, its heater bit and its bit 6 (R186). -/
theorem level_byte (heater : Bool) (a b c : Fin 4) :
    let n := bit heater 7 + a.val * 16 + b.val * 4 + c.val
    n < 256 ∧ bitOf n 7 = heater ∧ bitOf n 6 = false ∧ levelOf (n / 16) = a ∧ levelOf (n / 4) = b ∧ levelOf n = c := by
  revert heater a b c
  decide

/-- The levels' byte from its fields (R186). -/
theorem level_byte_of_fields {n : Nat} (small : n < 256) (clear : bitOf n 6 = false) :
    bit (bitOf n 7) 7 + (levelOf (n / 16)).val * 16 + (levelOf (n / 4)).val * 4 + (levelOf n).val = n := by
  have high : bit (bitOf n 7) 7 = n / 128 * 128 := by
    have two : n / 128 = 0 ∨ n / 128 = 1 := by omega
    rcases two with h | h <;> simp [bit, bitOf, h]
  have six : n / 64 % 2 = 0 := by
    have := clear
    simp only [bitOf, beq_eq_false_iff_ne] at this
    omega
  show bit (bitOf n 7) 7 + n / 16 % 4 * 16 + n / 4 % 4 * 4 + n % 4 = n
  omega

/-- The bytes written out (R186). -/
theorem PlanEntry.bytes_eq (e : PlanEntry) : e.bytes =
    [BitVec.ofNat 8 (e.index * 16 + e.length),
      BitVec.ofNat 8 ((BitVec.ofInt 16 e.lo).toNat / 256), BitVec.ofNat 8 (BitVec.ofInt 16 e.lo).toNat,
      BitVec.ofNat 8 ((BitVec.ofInt 16 e.hi).toNat / 256), BitVec.ofNat 8 (BitVec.ofInt 16 e.hi).toNat,
      BitVec.ofNat 8 (bit e.heater 7 + e.levelA.val * 16 + e.levelB.val * 4 + e.levelC.val),
      BitVec.ofNat 8 (e.sequence.code * 16 + e.pattern.code), e.staticDrive,
      BitVec.ofNat 8 (e.clockWord / 65536 / 256), BitVec.ofNat 8 (e.clockWord / 65536),
      BitVec.ofNat 8 (e.clockWord / 256), BitVec.ofNat 8 e.clockWord,
      BitVec.ofNat 8 (e.minutes / 256), BitVec.ofNat 8 e.minutes] := rfl

theorem parsePlan_bytes {e : PlanEntry} {loops : Nat} (good : e.inRange = true)
    (defined : ∀ k, e.pattern = .loop k → k < 8 ∧ k < loops) : parsePlan loops e.bytes = some e := by
  obtain ⟨h1, h2, h3, h4, h5, h6, h7, h8, h9, h10⟩ := e.inRange_iff.mp good
  obtain ⟨small, heater, clear, levelA, levelB, levelC⟩ := level_byte e.heater e.levelA e.levelB e.levelC
  obtain ⟨pattern, code⟩ := patternOf_code defined
  have sequence := e.sequence.code_lt
  have first : byteAt e.bytes 0 = e.index * 16 + e.length := by rw [PlanEntry.bytes_eq]; exact toNat_ofNat_byte (by omega)
  have lo : s16At e.bytes 1 = e.lo := by rw [PlanEntry.bytes_eq]; exact s16_of_bytes (by omega) (by omega)
  have hi : s16At e.bytes 3 = e.hi := by rw [PlanEntry.bytes_eq]; exact s16_of_bytes (by omega) (by omega)
  have levels : byteAt e.bytes 5 = bit e.heater 7 + e.levelA.val * 16 + e.levelB.val * 4 + e.levelC.val := by
    rw [PlanEntry.bytes_eq]; exact toNat_ofNat_byte small
  have codes : byteAt e.bytes 6 = e.sequence.code * 16 + e.pattern.code := by
    rw [PlanEntry.bytes_eq]; exact toNat_ofNat_byte (by omega)
  have clock : u32At e.bytes 8 = e.clockWord := by rw [PlanEntry.bytes_eq]; exact u32_of_bytes (by omega)
  have minutes : u16At e.bytes 12 = e.minutes := by rw [PlanEntry.bytes_eq]; exact u16_of_bytes (by omega)
  have drive : e.bytes.getD 7 0 = e.staticDrive := by rw [PlanEntry.bytes_eq]; rfl
  have seven : bitOf (e.sequence.code * 16 + e.pattern.code) 7 = false := by
    simp only [bitOf, beq_eq_false_iff_ne]; omega
  have six : bitOf (e.sequence.code * 16 + e.pattern.code) 6 = false := by
    simp only [bitOf, beq_eq_false_iff_ne]; omega
  have polarity : polarityOf ((e.sequence.code * 16 + e.pattern.code) / 16 % 4) = some e.sequence := by
    rw [show (e.sequence.code * 16 + e.pattern.code) / 16 % 4 = e.sequence.code by omega, polarityOf_code]
  have named : patternOf loops ((e.sequence.code * 16 + e.pattern.code) % 16) = some e.pattern := by
    rw [show (e.sequence.code * 16 + e.pattern.code) % 16 = e.pattern.code by omega, pattern]
  have index : (e.index * 16 + e.length) / 16 = e.index := by omega
  have length : (e.index * 16 + e.length) % 16 = e.length := by omega
  unfold parsePlan
  simp only [first, lo, hi, levels, codes, clock, minutes, drive, seven, six, clear, heater, levelA, levelB, levelC, polarity,
    named, index, length, good, Bool.or_false, Bool.false_eq_true, if_false, if_true]

theorem bytes_of_parsePlan {args : List Byte} {loops : Nat} {e : PlanEntry} (spelled : parsePlan loops args = some e)
    (fourteen : args.length = 14) : e.bytes = args := by
  obtain ⟨five, seven, six, polarity, pattern, -, fields⟩ := parsePlan_some spelled
  have sequence := code_of_polarityOf polarity
  have code := (code_of_patternOf pattern).1
  match args, fourteen with
  | [a0, a1, a2, a3, a4, a5, a6, a7, a8, a9, a10, a11, a12, a13], _ =>
    have index : e.index = a0.toNat / 16 := congrArg PlanEntry.index fields
    have length : e.length = a0.toNat % 16 := congrArg PlanEntry.length fields
    have lo : e.lo = (BitVec.ofNat 16 (a1.toNat * 256 + a2.toNat)).toInt := congrArg PlanEntry.lo fields
    have hi : e.hi = (BitVec.ofNat 16 (a3.toNat * 256 + a4.toNat)).toInt := congrArg PlanEntry.hi fields
    have heater : e.heater = bitOf a5.toNat 7 := congrArg PlanEntry.heater fields
    have levelA : e.levelA = levelOf (a5.toNat / 16) := congrArg PlanEntry.levelA fields
    have levelB : e.levelB = levelOf (a5.toNat / 4) := congrArg PlanEntry.levelB fields
    have levelC : e.levelC = levelOf a5.toNat := congrArg PlanEntry.levelC fields
    have drive : e.staticDrive = a7 := congrArg PlanEntry.staticDrive fields
    have clock : e.clockWord = (a8.toNat * 256 + a9.toNat) * 65536 + (a10.toNat * 256 + a11.toNat) :=
      congrArg PlanEntry.clockWord fields
    have minutes : e.minutes = a12.toNat * 256 + a13.toNat := congrArg PlanEntry.minutes fields
    have coded : e.sequence.code * 16 + e.pattern.code = a6.toNat := by
      have high : a6.toNat / 64 = 0 := by
        have := a6.isLt
        have seventh : a6.toNat / 128 % 2 ≠ 1 := beq_eq_false_iff_ne.mp seven
        have sixth : a6.toNat / 64 % 2 ≠ 1 := beq_eq_false_iff_ne.mp six
        omega
      have sequence : e.sequence.code = a6.toNat / 16 % 4 := sequence
      have code : e.pattern.code = a6.toNat % 16 := code
      omega
    have levels := level_byte_of_fields a5.isLt five
    have pair : ∀ a b : Byte, (BitVec.ofInt 16 (BitVec.ofNat 16 (a.toNat * 256 + b.toNat)).toInt).toNat = a.toNat * 256 + b.toNat :=
      fun a b => by
        have := a.isLt
        have := b.isLt
        rw [BitVec.ofInt_toInt, BitVec.toNat_ofNat]
        omega
    have bound : ∀ a : Byte, a.toNat < 256 := fun a => a.isLt
    have b1 := bound a1; have b2 := bound a2; have b3 := bound a3; have b4 := bound a4; have b8 := bound a8
    have b9 := bound a9; have b10 := bound a10; have b11 := bound a11; have b12 := bound a12; have b13 := bound a13
    have b0 := bound a0; have b5 := bound a5; have b6 := bound a6
    rw [PlanEntry.bytes_eq, index, length, lo, hi, heater, levelA, levelB, levelC, drive, clock, minutes, coded, pair, pair, levels]
    simp only [List.cons.injEq, and_true, true_and]
    refine ⟨?_, ?_, ?_, ?_, ?_, ?_, ?_, ?_, ?_, ?_, ?_, ?_, ?_⟩ <;> refine byte_of_toNat ?_ <;> omega

/-- Settles O28: the bytes and the fields, each from the other. -/
theorem planEntryBytesReadBack : Obligations.PlanEntryBytesReadBack := by
  refine ⟨fun e loops good defined => ⟨rfl, parsePlan_bytes good defined⟩, fun args loops e spelled => ?_⟩
  obtain ⟨five, seven, six, polarity, pattern, good, -⟩ := parsePlan_some spelled
  obtain ⟨h1, h2, h3, h4, h5, h6, h7, h8, h9, h10⟩ := e.inRange_iff.mp good
  obtain ⟨-, defined, assigned⟩ := code_of_patternOf pattern
  refine ⟨h1, h2, h3, h4, h5, h6, h7, h8, h9, h10, defined, five, seven, six, fun three => ?_, assigned,
    bytes_of_parsePlan spelled⟩
  rw [three] at polarity
  cases polarity

end Sys2Proof.Machine
end

section
/-! SUPPORT. The status frame built: where each field stands, and how a receiver reads it back (R108, R147, R163, R166 to R172,
R181, R182, R184, R185). -/

namespace Sys2Proof.Machine

/-! ### A part of a list of bytes -/

/-- The bytes of `part` stand in `f` from offset `o`. -/
def StandsAt (part f : List Byte) (o : Nat) : Prop := ∀ k < part.length, byteAt f (o + k) = byteAt part k

theorem standsAt_append (before part after : List Byte) : StandsAt part (before ++ (part ++ after)) before.length := by
  intro k inside
  unfold byteAt
  rw [List.getD_append_right _ _ _ _ (Nat.le_add_right _ _), Nat.add_sub_cancel_left, List.getD_append _ _ _ _ inside]

section
variable {part f : List Byte} {o : Nat}

theorem StandsAt.u16 (h : StandsAt part f o) (k : Nat) (inside : k + 1 < part.length) : u16At f (o + k) = u16At part k := by
  unfold u16At
  rw [h k (by omega), Nat.add_assoc, h (k + 1) inside]

theorem StandsAt.u32 (h : StandsAt part f o) (k : Nat) (inside : k + 3 < part.length) : u32At f (o + k) = u32At part k := by
  unfold u32At
  rw [h.u16 k (by omega), Nat.add_assoc, h.u16 (k + 2) inside]

theorem StandsAt.s16 (h : StandsAt part f o) (k : Nat) (inside : k + 1 < part.length) : s16At f (o + k) = s16At part k := by
  unfold s16At
  rw [h.u16 k inside]

end

/-! ### The parts of a frame -/

theorem baseBytes_length (s : State) : s.baseBytes.length = 28 := by
  simp only [State.baseBytes, enc8, enc16, enc32, List.length_append, List.length_cons, List.length_nil]

theorem Entry.bytes_length (e : Entry) : e.bytes.length = 14 := by
  unfold Entry.bytes Finding.detail
  cases e.finding <;> rfl

theorem replyBytes_length (s : State) (i : Socket) : (s.replyBytes i).length = 24 := by
  simp only [State.replyBytes, enc8, enc16, enc32, encS16, List.length_append, List.length_cons, List.length_nil]

theorem headBytes_length (s : State) : s.headBytes.length = if s.acu.history = [] then 0 else 14 := by
  unfold State.headBytes
  cases s.acu.history with
  | nil => rfl
  | cons e rest => exact e.bytes_length

theorem replyPart_length (s : State) : s.replyPart.length = if s.acu.readDue = none then 0 else 24 := by
  unfold State.replyPart
  cases s.acu.readDue with
  | none => rfl
  | some i => exact replyBytes_length s i

theorem frameBody_length (s : State) : s.frameBody.length =
    28 + (if s.acu.history = [] then 0 else 14) + (if s.acu.readDue = none then 0 else 24) := by
  unfold State.frameBody
  rw [List.length_append, List.length_append, baseBytes_length, headBytes_length, replyPart_length]

theorem base_stands (s : State) : StandsAt s.baseBytes s.frameBytes 0 := by
  have stands := standsAt_append [] s.baseBytes (s.headBytes ++ (s.replyPart ++ enc16 (crc s.frameBody).toNat))
  unfold State.frameBytes
  rw [State.frameBody, List.append_assoc, List.append_assoc]
  exact stands

theorem head_stands (s : State) : StandsAt s.headBytes s.frameBytes 28 := by
  have stands := standsAt_append s.baseBytes s.headBytes (s.replyPart ++ enc16 (crc s.frameBody).toNat)
  unfold State.frameBytes
  rw [State.frameBody, List.append_assoc, List.append_assoc]
  exact stands

theorem reply_stands (s : State) :
    StandsAt s.replyPart s.frameBytes (28 + (if s.acu.history = [] then 0 else 14)) := by
  have stands := standsAt_append (s.baseBytes ++ s.headBytes) s.replyPart (enc16 (crc s.frameBody).toNat)
  rw [List.length_append, baseBytes_length, headBytes_length] at stands
  unfold State.frameBytes
  rw [State.frameBody, List.append_assoc]
  exact stands

/-- The base part written out (R167 to R170, R182). -/
theorem baseBytes_eq (s : State) : s.baseBytes =
    [BitVec.ofNat 8 2, BitVec.ofNat 8 s.slot.val,
      BitVec.ofNat 8 (s.biu.roundNumber.toNat / 65536 / 256), BitVec.ofNat 8 (s.biu.roundNumber.toNat / 65536),
      BitVec.ofNat 8 (s.biu.roundNumber.toNat / 256), BitVec.ofNat 8 s.biu.roundNumber.toNat,
      BitVec.ofNat 8 (s.rcu.state.code * 64 + subCodeOf s.rcu.sub * 8 + endCodeOf s.rcu.endCause),
      BitVec.ofNat 8 s.flagsByte,
      BitVec.ofNat 8 (s.ldr.rackCode.toNat / 256), BitVec.ofNat 8 s.ldr.rackCode.toNat,
      BitVec.ofNat 8 (s.rcu.planCode.toNat / 256), BitVec.ofNat 8 s.rcu.planCode.toNat,
      BitVec.ofNat 8 (bit s.doneVote 7 + s.rcu.phase),
      BitVec.ofNat 8 (s.bdu.ownHeld / 256), BitVec.ofNat 8 s.bdu.ownHeld,
      BitVec.ofNat 8 (s.askNow / 256), BitVec.ofNat 8 s.askNow,
      BitVec.ofNat 8 (s.biu.heardMask.toNat / 65536 / 256), BitVec.ofNat 8 (s.biu.heardMask.toNat / 65536),
      BitVec.ofNat 8 (s.biu.heardMask.toNat / 256), BitVec.ofNat 8 s.biu.heardMask.toNat,
      BitVec.ofNat 8 (s.acu.reportResult.code * 16 + s.acu.reportCode.toNat),
      BitVec.ofNat 8 (s.maskOf .failed / 256), BitVec.ofNat 8 (s.maskOf .failed),
      BitVec.ofNat 8 (s.maskOf .running / 256), BitVec.ofNat 8 (s.maskOf .running),
      BitVec.ofNat 8 s.thu.onCount, BitVec.ofNat 8 s.meanDuty] := rfl

/-! ### The fields of the base part -/

/-- Eight flags in a byte (R168, R182). -/
theorem flags_of_byte : ∀ a b c d e f g h : Bool,
    let n := bit a 7 + bit b 6 + bit c 5 + bit d 4 + bit e 3 + bit f 2 + bit g 1 + bit h 0
    n < 256 ∧ bitOf n 7 = a ∧ bitOf n 6 = b ∧ bitOf n 5 = c ∧ bitOf n 4 = d ∧ bitOf n 3 = e ∧ bitOf n 2 = f ∧ bitOf n 1 = g ∧
    bitOf n 0 = h := by decide

theorem flagsByte_read (s : State) : byteAt s.frameBytes 7 = s.flagsByte := by
  have small : s.flagsByte < 256 := (flags_of_byte _ _ _ _ _ _ _ _).1
  have read := base_stands s 7 (by simp [baseBytes_length])
  rw [baseBytes_eq] at read
  exact read.trans (toNat_ofNat_byte small)

/-- The base part's fields as read (R167 to R170, R182). -/
theorem status_code_lt (st : StationState) : st.code < 4 := by cases st <;> decide

theorem sub_code_lt (sub : Option SubState) : subCodeOf sub < 8 := by
  rcases sub with - | sub
  · decide
  · cases sub <;> decide

theorem end_code_lt (cause : Option EndCause) : endCodeOf cause < 8 := by
  rcases cause with - | cause
  · decide
  · cases cause <;> decide

theorem result_code_lt (r : CmdResult) : r.code < 16 := by cases r <;> decide

theorem stateByte_read (s : State) :
    byteAt s.frameBytes 6 = s.rcu.state.code * 64 + subCodeOf s.rcu.sub * 8 + endCodeOf s.rcu.endCause := by
  have := status_code_lt s.rcu.state
  have := sub_code_lt s.rcu.sub
  have := end_code_lt s.rcu.endCause
  have read := base_stands s 6 (by simp [baseBytes_length])
  rw [baseBytes_eq] at read
  exact read.trans (toNat_ofNat_byte (by omega))

theorem reportByte_read (s : State) :
    byteAt s.frameBytes 21 = s.acu.reportResult.code * 16 + s.acu.reportCode.toNat := by
  have := result_code_lt s.acu.reportResult
  have := s.acu.reportCode.isLt
  have read := base_stands s 21 (by simp [baseBytes_length])
  rw [baseBytes_eq] at read
  exact read.trans (toNat_ofNat_byte (by omega))

/-- A sum of distinct bits. -/
theorem sum_bits_lt (n : Nat) (p : Fin n → Bool) : ((List.finRange n).map (fun i => bit (p i) i.val)).sum < 2 ^ n := by
  induction n with
  | zero => simp
  | succ n ih =>
    have double : ∀ i : Fin n, bit (p i.succ) i.succ.val = 2 * bit (p i.succ) i.val := fun i => by
      cases p i.succ <;> simp [bit, pow_succ, mul_comm]
    have halves : ((List.finRange (n + 1)).map (fun i => bit (p i) i.val)).sum =
        bit (p 0) 0 + 2 * ((List.finRange n).map (fun i => bit (p i.succ) i.val)).sum := by
      simp only [List.finRange_succ, List.map_cons, List.map_map, List.sum_cons, Function.comp_def, double,
        List.sum_map_mul_left, Fin.val_zero]
    have low : bit (p 0) 0 < 2 := by cases p 0 <;> decide
    have := ih (fun i => p i.succ)
    rw [halves, pow_succ]
    omega

theorem maskOf_lt (s : State) (st : SocketState) : s.maskOf st < 65536 := sum_bits_lt 16 (fun i => s.socketState i == st)

theorem failedMask_read (s : State) : u16At s.frameBytes 22 = s.maskOf .failed := by
  have read := (base_stands s).u16 22 (by simp [baseBytes_length])
  rw [baseBytes_eq] at read
  exact read.trans (u16_of_bytes (maskOf_lt s _))

theorem runningMask_read (s : State) : u16At s.frameBytes 24 = s.maskOf .running := by
  have read := (base_stands s).u16 24 (by simp [baseBytes_length])
  rw [baseBytes_eq] at read
  exact read.trans (u16_of_bytes (maskOf_lt s _))

theorem mask_iff (s : State) (st : SocketState) (i : Socket) : bitOf (s.maskOf st) i.val = true ↔ s.socketState i = st := by
  rw [bitOf_maskOf, beq_iff_eq]

/-- The tokens in use are the heater lines that are on (R103, R108). -/
theorem onCount_eq_lines (s : State) : s.thu.onCount = (allSockets.filter (fun i => s.heaterLine i)).length := by
  have list : s.thu.heaters.toList = allSockets.map (fun i => s.thu.heaters[i]) := by
    apply List.ext_getElem
    · simp [allSockets]
    · intro k _ _; simp [allSockets]
  unfold Thu.onCount
  rw [list, List.filter_map, List.length_map]
  rfl

theorem onCount_read (s : State) : byteAt s.frameBytes 26 = (allSockets.filter (fun i => s.heaterLine i)).length := by
  have least : s.thu.onCount ≤ 16 := by
    rw [onCount_eq_lines]
    exact (List.length_filter_le _ _).trans (by decide)
  have read := base_stands s 26 (by simp [baseBytes_length])
  rw [baseBytes_eq] at read
  exact (read.trans (toNat_ofNat_byte (by omega))).trans (onCount_eq_lines s)

/-- The mean duty is within 100 % where every on-time is within the period (R108). -/
theorem meanDuty_le (s : State) (within : ∀ i : Socket, s.thu.heaters[i].onTime ≤ s.prof.heaterPeriod) : s.meanDuty ≤ 100 := by
  unfold State.meanDuty
  dsimp only
  generalize allSockets.filter s.eligible = eligible
  have sum : (eligible.map (fun i => s.thu.heaters[i].onTime)).sum ≤ eligible.length * s.prof.heaterPeriod := by
    induction eligible with
    | nil => simp
    | cons i l ih =>
      have := within i
      simp only [List.map_cons, List.sum_cons, List.length_cons, Nat.add_mul, Nat.one_mul]
      omega
  generalize eligible.length * s.prof.heaterPeriod = most at sum ⊢
  exact Nat.div_le_of_le_mul (by rw [Nat.mul_comm most]; omega)

theorem meanDuty_read (s : State) (small : s.meanDuty ≤ 100) : byteAt s.frameBytes 27 = s.meanDuty := by
  have read := base_stands s 27 (by simp [baseBytes_length])
  rw [baseBytes_eq] at read
  exact read.trans (toNat_ofNat_byte (by omega))

/-! ### The frame received -/

theorem frame_crc_read (s : State) : u16At s.frameBytes s.frameBody.length = (crc s.frameBody).toNat := by
  unfold State.frameBytes
  generalize s.frameBody = body
  have stands := standsAt_append body (enc16 (crc body).toNat) []
  rw [List.append_nil] at stands
  exact (stands.u16 0 Nat.one_lt_two).trans (u16_of_bytes (crc body).isLt)

theorem head_flag (s : State) : bitOf s.flagsByte 5 = !s.acu.history.isEmpty := by
  unfold State.flagsByte
  exact (flags_of_byte _ _ _ _ _ _ _ _).2.2.2.1

theorem reply_flag (s : State) : bitOf s.flagsByte 4 = s.acu.readDue.isSome := by
  unfold State.flagsByte
  exact (flags_of_byte _ _ _ _ _ _ _ _).2.2.2.2.1

/-- The two flags tell the length of the body (R166, R168). -/
theorem statusBody_flags (s : State) : statusBody s.flagsByte = s.frameBody.length := by
  unfold statusBody
  rw [head_flag, reply_flag, frameBody_length]
  cases s.acu.history <;> cases s.acu.readDue <;> rfl

theorem vote_byte {vote : Bool} {phase : Nat} (small : phase < 16) :
    (BitVec.ofNat 8 (bit vote 7 + phase)).toNat % 16 = phase ∧ bitOf (BitVec.ofNat 8 (bit vote 7 + phase)).toNat 7 = vote := by
  rw [toNat_ofNat_byte (by cases vote <;> simp [bit] <;> omega)]
  cases vote
  · simp only [bit, bitOf, Bool.false_eq_true, if_false, beq_eq_false_iff_ne]
    omega
  · simp only [bit, bitOf, if_true, beq_iff_eq]
    omega

theorem ofNat_of_mod {w n m : Nat} (h : n % 2 ^ w = m % 2 ^ w) : BitVec.ofNat w n = BitVec.ofNat w m :=
  BitVec.eq_of_toNat_eq (by rw [BitVec.toNat_ofNat, BitVec.toNat_ofNat, h])

theorem kind_read (s : State) : byteAt s.frameBytes 0 = 2 := by
  have read := (base_stands s) 0 (by simp [baseBytes_length])
  rw [baseBytes_eq] at read
  exact read

theorem slot_read (s : State) : byteAt s.frameBytes 1 = s.slot.val := by
  have read := (base_stands s) 1 (by simp [baseBytes_length])
  rw [baseBytes_eq] at read
  exact read.trans (toNat_ofNat_byte (by have := s.slot.isLt; omega))

theorem round_read (s : State) : u32At s.frameBytes 2 = s.biu.roundNumber.toNat := by
  have read := (base_stands s).u32 2 (by simp [baseBytes_length])
  rw [baseBytes_eq] at read
  exact read.trans (u32_of_bytes s.biu.roundNumber.isLt)

theorem rackCode_read (s : State) : u16At s.frameBytes 8 = s.ldr.rackCode.toNat := by
  have read := (base_stands s).u16 8 (by simp [baseBytes_length])
  rw [baseBytes_eq] at read
  exact read.trans (u16_of_bytes s.ldr.rackCode.isLt)

theorem planCode_read (s : State) : u16At s.frameBytes 10 = s.rcu.planCode.toNat := by
  have read := (base_stands s).u16 10 (by simp [baseBytes_length])
  rw [baseBytes_eq] at read
  exact read.trans (u16_of_bytes s.rcu.planCode.isLt)

theorem voteByte_read (s : State) : byteAt s.frameBytes 12 = (BitVec.ofNat 8 (bit s.doneVote 7 + s.rcu.phase)).toNat := by
  have read := (base_stands s) 12 (by simp [baseBytes_length])
  rw [baseBytes_eq] at read
  exact read

theorem held_read (s : State) (held : s.bdu.ownHeld < 65536) : u16At s.frameBytes 13 = s.bdu.ownHeld := by
  have read := (base_stands s).u16 13 (by simp [baseBytes_length])
  rw [baseBytes_eq] at read
  exact read.trans (u16_of_bytes held)

theorem asked_read (s : State) (asked : s.askNow < 65536) : u16At s.frameBytes 15 = s.askNow := by
  have read := (base_stands s).u16 15 (by simp [baseBytes_length])
  rw [baseBytes_eq] at read
  exact read.trans (u16_of_bytes asked)

theorem heardMask_read (s : State) : u32At s.frameBytes 17 = s.biu.heardMask.toNat := by
  have read := (base_stands s).u32 17 (by simp [baseBytes_length])
  rw [baseBytes_eq] at read
  exact read.trans (u32_of_bytes s.biu.heardMask.isLt)

theorem hold_flag (s : State) : bitOf s.flagsByte 7 = s.holdFlag := by
  unfold State.flagsByte
  exact (flags_of_byte _ _ _ _ _ _ _ _).2.1

/-- The frame checks where its own flags end it (R12, R166, R181). -/
theorem frame_checks (s : State) :
    let body := statusBody (byteAt s.frameBytes 7)
    body + 2 ≤ s.frameBytes.length ∧ (crc (s.frameBytes.take body)).toNat = u16At s.frameBytes body := by
  rw [flagsByte_read, statusBody_flags]
  dsimp only
  rw [frame_crc_read]
  unfold State.frameBytes
  generalize s.frameBody = body
  rw [List.take_left, List.length_append]
  exact ⟨Nat.le_refl _, rfl⟩

theorem parseStatus_frameBytes (s : State) (phase : s.rcu.phase < 16) (held : s.bdu.ownHeld < 65536) (asked : s.askNow < 65536) :
    parseStatus s.slot.val s.frameBytes =
      some { round := s.biu.roundNumber, stateCode := BitVec.ofNat 2 s.rcu.state.code
             subCode := BitVec.ofNat 3 (subCodeOf s.rcu.sub), hold := s.holdFlag, rackCode := s.ldr.rackCode
             planCode := s.rcu.planCode, phase := s.rcu.phase, vote := s.doneVote, held := s.bdu.ownHeld
             asked := s.askNow, heard := s.biu.heardMask } := by
  obtain ⟨long, checks⟩ := frame_checks s
  obtain ⟨phaseRead, voteRead⟩ := vote_byte (vote := s.doneVote) phase
  have sub := sub_code_lt s.rcu.sub
  have cause := end_code_lt s.rcu.endCause
  have state := stateByte_read s
  have flags := flagsByte_read s
  have hold := hold_flag s
  have good := And.intro (kind_read s) (And.intro (slot_read s) (And.intro long checks))
  have round := round_read s
  have rack := rackCode_read s
  have plan := planCode_read s
  have vote := voteByte_read s
  have own := held_read s held
  have ask := asked_read s asked
  have heard := heardMask_read s
  unfold parseStatus
  generalize s.frameBytes = f at *
  refine (if_pos good).trans ?_
  rw [round, rack, plan, own, ask, heard, flags, hold, vote, phaseRead, voteRead, state]
  simp only [BitVec.ofNat_toNat, BitVec.setWidth_eq]
  rw [ofNat_of_mod (w := 2) (m := s.rcu.state.code) (by omega), ofNat_of_mod (w := 3) (m := subCodeOf s.rcu.sub) (by omega)]

end Sys2Proof.Machine
end

section
/-! SUPPORT. The head entry and the READ reply of a status frame, read back (R146, R171, R172, R184, R185). -/

namespace Sys2Proof.Machine

/-! ### The head entry -/

/-- An entry's first ten bytes (R184). -/
def Entry.leadBytes (e : Entry) : List Byte :=
  [BitVec.ofNat 8 (bit e.final 7 + e.finding.code * 16 + (e.socket.map Fin.val).getD 0), BitVec.ofNat 8 e.phase,
    BitVec.ofNat 8 (e.round.toNat / 65536 / 256), BitVec.ofNat 8 (e.round.toNat / 65536),
    BitVec.ofNat 8 (e.round.toNat / 256), BitVec.ofNat 8 e.round.toNat,
    BitVec.ofNat 8 (e.credit.getD 0 / 65536 / 256), BitVec.ofNat 8 (e.credit.getD 0 / 65536),
    BitVec.ofNat 8 (e.credit.getD 0 / 256), BitVec.ofNat 8 (e.credit.getD 0)]

theorem Entry.bytes_eq (e : Entry) : e.bytes = e.leadBytes ++ e.finding.detail := rfl

theorem Finding.detail_length (g : Finding) : g.detail.length = 4 := by cases g <;> rfl

theorem Finding.code_lt (g : Finding) : g.code < 8 := by cases g <;> simp [Finding.code]

/-- Where the entry's two parts stand in a frame. -/
theorem entry_stands {s : State} {e : Entry} {rest : List Entry} (head : s.acu.history = e :: rest) :
    StandsAt e.leadBytes s.frameBytes 28 ∧ StandsAt e.finding.detail s.frameBytes 38 := by
  have stands := head_stands s
  have bytes : s.headBytes = e.leadBytes ++ e.finding.detail := by
    unfold State.headBytes
    rw [head]
    exact e.bytes_eq
  rw [bytes] at stands
  have detail := e.finding.detail_length
  refine ⟨fun k inside => ?_, fun k inside => ?_⟩
  · rw [stands k (by rw [List.length_append]; omega)]
    unfold byteAt
    rw [List.getD_append _ _ _ _ inside]
  · have read := stands (10 + k) (by rw [List.length_append]; exact Nat.add_lt_add_left inside 10)
    rw [← Nat.add_assoc] at read
    rw [read]
    unfold byteAt
    rw [List.getD_append_right _ _ _ _ (Nat.le_add_right 10 k)]
    exact congrArg (fun j => (e.finding.detail.getD j 0).toNat) (Nat.add_sub_cancel_left 10 k)

/-- The lead of an entry: its final bit, its kind, its socket, its phase, its round and its credit (R171, R184). -/
theorem lead_read {e : Entry} {f : List Byte} (stands : StandsAt e.leadBytes f 28) :
    (byteAt f 28 / 128 = (if e.final then 1 else 0) ∧ byteAt f 28 % 16 = (e.socket.map Fin.val).getD 0 ∧
      byteAt f 28 / 16 % 8 = e.finding.code) ∧
    (e.phase < 256 → byteAt f 29 = e.phase) ∧ u32At f 30 = e.round.toNat ∧
    (e.credit.getD 0 < 2 ^ 32 → u32At f 34 = e.credit.getD 0) := by
  have small : (e.socket.map Fin.val).getD 0 < 16 := by
    cases e.socket with
    | none => decide
    | some i => exact i.isLt
  have code := e.finding.code_lt
  have final : bit e.final 7 = (if e.final then 1 else 0) * 128 := by cases e.final <;> rfl
  have most : (if e.final then 1 else 0) ≤ 1 := by cases e.final <;> decide
  have first : byteAt f 28 = bit e.final 7 + e.finding.code * 16 + (e.socket.map Fin.val).getD 0 :=
    (stands 0 (by simp [Entry.leadBytes])).trans (toNat_ofNat_byte (by omega))
  refine ⟨?_, fun h => ?_, ?_, fun h => ?_⟩
  · rw [first, final]
    generalize (if e.final then 1 else 0) = bitValue at *
    refine ⟨?_, ?_, ?_⟩ <;> omega
  · exact (stands 1 (by simp [Entry.leadBytes])).trans (toNat_ofNat_byte h)
  · exact (stands.u32 2 (by simp [Entry.leadBytes])).trans (u32_of_bytes e.round.isLt)
  · exact (stands.u32 6 (by simp [Entry.leadBytes])).trans (u32_of_bytes h)

/-! ### The reply -/

/-- The reply written out (R172, R185). -/
theorem replyBytes_eq (s : State) (i : Socket) (r : SocketRecord) (same : s.acu.records[i] = r) : s.replyBytes i =
    [BitVec.ofNat 8 (bit r.soft 7 + r.band.code * 16 + i.val), BitVec.ofNat 8 (r.state.code * 32 + r.retries * 8 + r.qualifier),
      BitVec.ofNat 8 (r.streak * 16 + r.reportedPhase s.rcu.phase),
      BitVec.ofNat 8 (r.reportedCredit s.rcu.phase / 65536 / 256), BitVec.ofNat 8 (r.reportedCredit s.rcu.phase / 65536),
      BitVec.ofNat 8 (r.reportedCredit s.rcu.phase / 256), BitVec.ofNat 8 (r.reportedCredit s.rcu.phase),
      BitVec.ofNat 8 (r.exposure / 65536 / 256), BitVec.ofNat 8 (r.exposure / 65536), BitVec.ofNat 8 (r.exposure / 256),
      BitVec.ofNat 8 r.exposure,
      BitVec.ofNat 8 (r.passCount.toNat / 65536 / 256), BitVec.ofNat 8 (r.passCount.toNat / 65536),
      BitVec.ofNat 8 (r.passCount.toNat / 256), BitVec.ofNat 8 r.passCount.toNat,
      BitVec.ofNat 8 (r.mismatchCount.toNat / 256), BitVec.ofNat 8 r.mismatchCount.toNat,
      BitVec.ofNat 8 (r.lastCurrent.toNat / 256), BitVec.ofNat 8 r.lastCurrent.toNat,
      BitVec.ofNat 8 ((BitVec.ofInt 16 r.lastTemp).toNat / 256), BitVec.ofNat 8 (BitVec.ofInt 16 r.lastTemp).toNat,
      BitVec.ofNat 8 (r.onTime / 256), BitVec.ofNat 8 r.onTime, BitVec.ofNat 8 s.thu.heaters[i].sensorStreak] := by
  subst same
  rfl

theorem Band.code_lt (b : Band) : b.code < 8 := by cases b <;> decide

theorem SocketState.code_lt (st : SocketState) : st.code < 8 := by cases st <;> decide

/-- What the qualifier tells of an exclusion and of a failure (R172, R185). -/
theorem SocketRecord.qualifier_eq (r : SocketRecord) : r.qualifier =
    match r.state, r.source, r.failure.map Failure.kind with
    | .excluded, some .profile, _ => 1
    | .excluded, some .command, _ => 2
    | .failed, _, some .openLoad => 3
    | .failed, _, some .overcurrent => 4
    | .failed, _, some .functional => 5
    | .failed, _, some .thermal => 6
    | _, _, _ => 0 := by
  unfold SocketRecord.qualifier
  generalize r.failure.map Failure.kind = kind
  generalize r.source = source
  cases r.state with
  | excluded => rcases source with - | - | - <;> rfl
  | failed => rcases kind with - | - | - | - | - <;> rfl
  | off | powering | settled | running | retry | parked => rfl

theorem SocketRecord.qualifier_lt (r : SocketRecord) : r.qualifier < 8 := by
  unfold SocketRecord.qualifier
  generalize r.failure.map Failure.kind = kind
  cases r.state with
  | excluded => rcases r.source with - | - | - <;> simp
  | failed => rcases kind with - | - | - | - | - <;> simp
  | off | powering | settled | running | retry | parked => simp

/-- The phase and the credit that a reply reports (R146). -/
theorem SocketRecord.reported_eq (r : SocketRecord) (phase : Nat) :
    let failed := if r.state = .failed then r.failure else none
    r.reportedPhase phase = (failed.map Failure.phase).getD phase ∧
    r.reportedCredit phase = (failed.map Failure.credit).getD (r.creditAt phase) := by
  unfold SocketRecord.reportedPhase SocketRecord.reportedCredit
  generalize r.creditAt phase = credit
  generalize r.failure = failure
  cases r.state with
  | failed => cases failure <;> exact ⟨rfl, rfl⟩
  | off | powering | settled | running | retry | parked | excluded => exact ⟨rfl, rfl⟩

theorem byte_fields {a b c n : Nat} (h : n = a * 32 + b * 8 + c) (mid : b < 4) (low : c < 8) :
    n / 32 = a ∧ n / 8 % 4 = b ∧ n % 8 = c := by omega

/-- The reply's fields as read (R146, R172, R185). -/
theorem reply_read {s : State} {i : Socket} {f : List Byte} {o : Nat} (stands : StandsAt (s.replyBytes i) f o) (r : SocketRecord)
    (same : s.acu.records[i] = r) :
    (byteAt f o / 128 = (if r.soft then 1 else 0) ∧ byteAt f o % 16 = i.val ∧ byteAt f o / 16 % 8 = r.band.code) ∧
    (r.retries < 4 → byteAt f (o + 1) / 8 % 4 = r.retries ∧ byteAt f (o + 1) / 32 = r.state.code ∧
      byteAt f (o + 1) % 8 = r.qualifier) ∧
    (r.streak < 16 → r.reportedPhase s.rcu.phase < 16 → byteAt f (o + 2) = 16 * r.streak + r.reportedPhase s.rcu.phase) ∧
    (r.reportedCredit s.rcu.phase < 2 ^ 32 → u32At f (o + 3) = r.reportedCredit s.rcu.phase) ∧
    (r.exposure < 2 ^ 32 → u32At f (o + 7) = r.exposure) ∧
    u32At f (o + 11) = r.passCount.toNat ∧ u16At f (o + 15) = r.mismatchCount.toNat ∧
    u16At f (o + 17) = r.lastCurrent.toNat ∧
    (-32768 ≤ r.lastTemp → r.lastTemp < 32768 → s16At f (o + 19) = r.lastTemp) ∧
    (r.onTime < 65536 → u16At f (o + 21) = r.onTime) ∧
    (s.thu.heaters[i].sensorStreak < 256 → byteAt f (o + 23) = s.thu.heaters[i].sensorStreak) := by
  rw [replyBytes_eq s i r same] at stands
  have band := r.band.code_lt
  have socket := i.isLt
  have state := r.state.code_lt
  have qualifier := r.qualifier_lt
  have soft : bit r.soft 7 = (if r.soft then 1 else 0) * 128 := by cases r.soft <;> rfl
  have most : (if r.soft then 1 else 0) ≤ 1 := by cases r.soft <;> decide
  have first : byteAt f o = bit r.soft 7 + r.band.code * 16 + i.val :=
    (stands 0 (by simp)).trans (toNat_ofNat_byte (by omega))
  refine ⟨?_, fun h => ?_, fun h h' => ?_, fun h => ?_, fun h => ?_, ?_, ?_, ?_, fun h h' => ?_, fun h => ?_, fun h => ?_⟩
  · rw [first, soft]
    generalize (if r.soft then 1 else 0) = bitValue at *
    refine ⟨?_, ?_, ?_⟩ <;> omega
  · have second : byteAt f (o + 1) = r.state.code * 32 + r.retries * 8 + r.qualifier :=
      (stands 1 (by simp)).trans (toNat_ofNat_byte (by omega))
    obtain ⟨high, mid, low⟩ := byte_fields second h qualifier
    exact ⟨mid, high, low⟩
  · exact ((stands 2 (by simp)).trans (toNat_ofNat_byte (by omega))).trans (by omega)
  · exact (stands.u32 3 (by simp)).trans (u32_of_bytes h)
  · exact (stands.u32 7 (by simp)).trans (u32_of_bytes h)
  · exact (stands.u32 11 (by simp)).trans (u32_of_bytes r.passCount.isLt)
  · exact (stands.u16 15 (by simp)).trans (u16_of_bytes r.mismatchCount.isLt)
  · exact (stands.u16 17 (by simp)).trans (u16_of_bytes r.lastCurrent.isLt)
  · exact (stands.s16 19 (by simp)).trans (s16_of_bytes h h')
  · exact (stands.u16 21 (by simp)).trans (u16_of_bytes h)
  · exact (stands 23 (by simp)).trans (toNat_ofNat_byte h)

theorem Finding.inside_detail {g : Finding} {k : Nat} (h : k < 4) : k < g.detail.length := by rw [g.detail_length]; exact h

/-- The detail of an entry, kind by kind (R184). -/
theorem detail_read (g : Finding) (f : List Byte) : StandsAt g.detail f 38 →
    match g with
    | .openLoad c => u16At f 38 = c.toNat ∧ u16At f 40 = 0
    | .overcurrent c n => (c < 65536 → u16At f 38 = c) ∧ (n < 256 → byteAt f 40 = n) ∧ byteAt f 41 = 0
    | .functional x inverted => u16At f 38 = x.toNat ∧ byteAt f 40 = (if inverted then 1 else 0) ∧ byteAt f 41 = 0
    | .soft x inverted => u16At f 38 = x.toNat ∧ byteAt f 40 = (if inverted then 1 else 0) ∧ byteAt f 41 = 0
    | .thermal temp => (-32768 ≤ temp → temp < 32768 → s16At f 38 = temp) ∧ u16At f 40 = 0
    | .sensor code => u16At f 38 = code.toNat ∧ u16At f 40 = 0
    | .interruption cause count => byteAt f 38 = cause.code ∧ (count < 256 → byteAt f 39 = count) ∧ u16At f 40 = 0 := by
  intro stands
  have zero : (BitVec.ofNat 8 (0 / 256)).toNat * 256 + (BitVec.ofNat 8 0).toNat = 0 := u16_of_bytes (by decide)
  have pair := stands.u16 0 (Finding.inside_detail (by decide))
  have rest := stands.u16 2 (Finding.inside_detail (by decide))
  have second := stands 1 (Finding.inside_detail (by decide))
  have third := stands 2 (Finding.inside_detail (by decide))
  have fourth := stands 3 (Finding.inside_detail (by decide))
  cases g with
  | openLoad c => exact ⟨pair.trans (u16_of_bytes c.isLt), rest.trans zero⟩
  | overcurrent c n =>
    exact ⟨fun h => pair.trans (u16_of_bytes h), fun h => third.trans (toNat_ofNat_byte h), fourth⟩
  | functional x inverted =>
    exact ⟨pair.trans (u16_of_bytes x.isLt), third.trans (by cases inverted <;> rfl), fourth⟩
  | soft x inverted => exact ⟨pair.trans (u16_of_bytes x.isLt), third.trans (by cases inverted <;> rfl), fourth⟩
  | thermal temp =>
    exact ⟨fun h h' => (stands.s16 0 (Finding.inside_detail (by decide))).trans (s16_of_bytes h h'), rest.trans zero⟩
  | sensor code => exact ⟨pair.trans (u16_of_bytes code.isLt), rest.trans zero⟩
  | interruption cause count =>
    have first := stands 0 (Finding.inside_detail (by decide))
    exact ⟨first.trans (by cases cause <;> rfl), fun h => second.trans (toNat_ofNat_byte h), rest.trans zero⟩

theorem rackConflict_iff (s : State) : s.rackConflict = true ↔ ∃ k : Station, s.isOwn k = false ∧
    s.biu.peers[k].presence ≠ .absent ∧ s.biu.peers[k].rackDiffers = true := by
  simp [State.rackConflict, allStations, and_assoc]

theorem shedding_iff (s : State) : s.shedding = true ↔ 1 ≤ s.biu.unheardStreak ∨
    (s.rcu.sub = some .recovering ∧ s.rcu.recoverUnheard = true ∧ s.biu.sinceUnheard < s.prof.lostThreshold) := by
  simp [State.shedding, and_assoc]

/-- Settles O21: the parts of the frame, each read where it stands. -/
theorem builtFrameReadsBack : Obligations.BuiltFrameReadsBack := by
  intro s f eligible
  have flags := flagsByte_read s
  have state := stateByte_read s
  have report := reportByte_read s
  have bits := flags_of_byte s.holdFlag s.acu.overflow (!s.acu.history.isEmpty) s.acu.readDue.isSome s.rackConflict
    s.biu.driftWarn s.biu.driftSevere s.shedding
  obtain ⟨-, hold, overflow, head, reply, conflict, warn, severe, shed⟩ := bits
  have cause := end_code_lt s.rcu.endCause
  have code := s.acu.reportCode.isLt
  refine ⟨?_, parseStatus_frameBytes s, ?_, ?_, ?_, ?_, fun i => ⟨?_, ?_⟩, onCount_read s, ⟨rfl, fun within => ?_⟩,
    fun e rest first => ?_, fun i due => ?_⟩
  · show (s.frameBody ++ enc16 (crc s.frameBody).toNat).length = _
    rw [List.length_append, frameBody_length]
    show _ + 2 = _
    omega
  · rw [flags]
    refine ⟨hold, overflow, ?_, ?_, conflict ▸ rackConflict_iff s, warn, severe, shed ▸ shedding_iff s⟩
    · rw [head_flag]
      cases s.acu.history <;> simp
    · rw [reply_flag]
      cases s.acu.readDue <;> simp
  · have low : byteAt f 6 % 8 = endCodeOf s.rcu.endCause := by
      rw [state]
      omega
    rw [low]
    rcases s.rcu.endCause with - | cause
    · rfl
    · cases cause <;> rfl
  · rw [report]
    omega
  · have high : byteAt f 21 / 16 = s.acu.reportResult.code := by
      rw [report]
      omega
    rw [high]
    cases s.acu.reportResult <;> rfl
  · exact (failedMask_read s).symm ▸ mask_iff s .failed i
  · exact (runningMask_read s).symm ▸ mask_iff s .running i
  · have small := meanDuty_le s within
    exact ⟨small, meanDuty_read s small⟩
  · obtain ⟨lead, detail⟩ := entry_stands first
    obtain ⟨⟨final, socket, kind⟩, phase, round, credit⟩ := lead_read lead
    refine ⟨final, socket, phase, round, credit, ?_⟩
    have read := detail_read e.finding f detail
    generalize e.finding = g at read kind
    cases g with
    | interruption cause count =>
      obtain ⟨first, rest⟩ := read
      exact ⟨kind, first.trans (by cases cause <;> rfl), rest⟩
    | openLoad | overcurrent | functional | soft | thermal | sensor => exact ⟨kind, read⟩
  · intro o r failed phase credit
    have stands : StandsAt (s.replyBytes i) f o := by
      have stands := reply_stands s
      unfold State.replyPart at stands
      rw [due] at stands
      exact stands
    obtain ⟨⟨soft, socket, band⟩, fields, streak, total, exposure, passes, mismatches, current, temp, onTime, sensor⟩ :=
      reply_read stands r rfl
    obtain ⟨phaseEq, creditEq⟩ := r.reported_eq s.rcu.phase
    rw [phaseEq] at streak
    rw [creditEq] at total
    refine ⟨soft, socket, band.trans ?_, fun h => ?_, streak, total, exposure, passes, mismatches, current, temp, onTime, sensor⟩
    · cases r.band <;> rfl
    · obtain ⟨retries, code, qualifier⟩ := fields h
      refine ⟨retries, code.trans ?_, qualifier.trans r.qualifier_eq⟩
      cases r.state <;> rfl

end Sys2Proof.Machine
end

section
/-! SUPPORT. The rows of the power side: current, rail, bulk and board readings, and the timeouts of the rails (R69 to R76,
R78 to R80, R84 to R91). -/

namespace Sys2Proof.Machine

/-! ### Handing over a reading, and two changes of one socket -/

section
variable {s : State}

/-- The reading of the conversion that ends is judged once handed over (R80). -/
theorem handOver_ending {input : ScanInput} (user : State → State) (h : s.ending = some input) :
    s.handOver input user = user s.handed := if_pos h

/-- Two changes of one socket's power side are one. -/
theorem modPower_modPower (i : Socket) (f g : SocketPower → SocketPower) :
    (s.modPower i f).modPower i g = s.modPower i (fun p => g (f p)) := by
  have twice : ((s.rlu.sockets.set i (f s.rlu.sockets[i])).set i
      (g (s.rlu.sockets.set i (f s.rlu.sockets[i]))[i])) = s.rlu.sockets.set i (g (f s.rlu.sockets[i])) := by simp
  exact congrArg (fun v : Vector SocketPower 16 => { s with rlu := { s.rlu with sockets := v } }) twice

/-- Two changes of one record are one. -/
theorem modRecord_modRecord (i : Socket) (f g : SocketRecord → SocketRecord) :
    (s.modRecord i f).modRecord i g = s.modRecord i (fun r => g (f r)) := by
  have twice : ((s.acu.records.set i (f s.acu.records[i])).set i
      (g (s.acu.records.set i (f s.acu.records[i]))[i])) = s.acu.records.set i (g (f s.acu.records[i])) := by simp
  exact congrArg (fun v : Vector SocketRecord 16 => { s with acu := { s.acu with records := v } }) twice

/-! ### The supervision of a socket's current -/

/-- The debounce after a reading that does not trip (R87). -/
def SocketPower.debounced (p : SocketPower) (current : Half) : Nat :=
  if p.threshold < current.toNat then p.debounce + 1 else 0

variable {i : Socket} {c : Half}

/-- An open switch is not supervised (R84, R85, R87). -/
theorem superviseCurrent_of_open (h : s.rlu.sockets[i].closed = false) : s.superviseCurrent i c = s :=
  if_neg (by rw [h]; exact Bool.false_ne_true)

/-- A reading above the threshold that fills the debounce trips the socket (R87). -/
theorem superviseCurrent_of_trip (closed : s.rlu.sockets[i].closed = true) (above : s.rlu.sockets[i].threshold < c.toNat)
    (full : s.prof.tripDebounce ≤ s.rlu.sockets[i].debounce + 1) : s.superviseCurrent i c = s.trip i c.toNat := by
  unfold State.superviseCurrent
  rw [if_pos closed, if_pos above, if_neg (Nat.not_lt.2 full)]

/-- A reading that trips nothing moves the debounce, and the open supervision follows (R84, R85, R87). -/
theorem superviseCurrent_of_noTrip (closed : s.rlu.sockets[i].closed = true)
    (room : s.rlu.sockets[i].threshold < c.toNat → s.rlu.sockets[i].debounce + 1 < s.prof.tripDebounce) :
    s.superviseCurrent i c =
      State.superviseOpen (s.modPower i (fun p => { p with debounce := s.rlu.sockets[i].debounced c })) i c := by
  unfold State.superviseCurrent SocketPower.debounced
  rw [if_pos closed]
  by_cases above : s.rlu.sockets[i].threshold < c.toNat
  · rw [if_pos above, if_pos (room above), if_pos above]; rfl
  · rw [if_neg above, if_neg above]

/-- A POWERING socket in its open check is checked (R84). -/
theorem superviseOpen_of_check {low : Nat} (powering : s.socketState i = .powering)
    (check : s.rlu.sockets[i].openCheck = some low) : s.superviseOpen i c = s.checkOpen i c low := by
  unfold State.superviseOpen
  rw [powering, check]

/-- A RUNNING socket's open streak is moved (R85). -/
theorem superviseOpen_of_running (running : s.socketState i = .running) : s.superviseOpen i c = s.watchOpen i c := by
  unfold State.superviseOpen
  rw [running]

/-- A SETTLED socket, and a POWERING one before its open check, have no open supervision (R84, R85). -/
theorem superviseOpen_of_none
    (h : s.socketState i = .settled ∨ (s.socketState i = .powering ∧ s.rlu.sockets[i].openCheck = none)) :
    s.superviseOpen i c = s := by
  unfold State.superviseOpen
  rcases h with settled | ⟨powering, unchecked⟩
  · rw [settled]
  · rw [powering, unchecked]

/-- A reading at or above the open floor settles the socket in its open check (R84). -/
theorem checkOpen_of_floor (low : Nat) (floor : s.prof.openFloor ≤ c.toNat) : s.checkOpen i c low = s.settleSocket i :=
  if_pos floor

/-- A low reading of the open check is counted to the third (R84). -/
theorem checkOpen_of_few {low : Nat} (below : c.toNat < s.prof.openFloor) (few : low + 1 < 3) :
    s.checkOpen i c low = s.modPower i (fun p => { p with openCheck := some (low + 1) }) :=
  (if_neg (Nat.not_le.2 below)).trans (if_pos few)

/-- The third low reading of the open check fails the socket (R84). -/
theorem checkOpen_of_many {low : Nat} (below : c.toNat < s.prof.openFloor) (many : 3 ≤ low + 1) :
    s.checkOpen i c low = s.failSocket i .openLoad (.openLoad c) :=
  (if_neg (Nat.not_le.2 below)).trans (if_neg (Nat.not_lt.2 many))

/-- A reading at or above the open floor ends the open streak (R85). -/
theorem watchOpen_of_floor (floor : s.prof.openFloor ≤ c.toNat) :
    s.watchOpen i c = s.modPower i (fun p => { p with openStreak := 0 }) := if_pos floor

/-- A low reading of a RUNNING socket is counted to the sixteenth (R85). -/
theorem watchOpen_of_few (below : c.toNat < s.prof.openFloor) (few : s.rlu.sockets[i].openStreak + 1 < 16) :
    s.watchOpen i c = s.modPower i (fun p => { p with openStreak := p.openStreak + 1 }) :=
  (if_neg (Nat.not_le.2 below)).trans (if_pos few)

/-- The sixteenth low reading in a row fails the socket (R85). -/
theorem watchOpen_of_many (below : c.toNat < s.prof.openFloor) (many : 16 ≤ s.rlu.sockets[i].openStreak + 1) :
    s.watchOpen i c = s.failSocket i .openLoad (.openLoad c) :=
  (if_neg (Nat.not_le.2 below)).trans (if_neg (Nat.not_lt.2 many))

/-- A socket settles: its open check is over and its record is SETTLED, or RUNNING while the engine is STATIC (R84, R121). -/
theorem settleSocket_eq :
    s.settleSocket i = (s.modPower i (fun p => { p with openCheck := none, settledNow := true })).modRecord i
      (SocketRecord.become (if s.ptu.engine = .static then .running else .settled)) := rfl

/-! ### Rails -/

/-- A reading within tolerance (R70). -/
theorem inTolerance_iff (tolerance reading voltage : Nat) :
    inTolerance tolerance reading voltage = true ↔ voltage ≤ reading + tolerance ∧ reading ≤ voltage + tolerance := by
  simp [inTolerance]

/-- The rails apart have different places. -/
theorem Rail.ix_ne {r q : Rail} (h : r ≠ q) : r.ix ≠ q.ix := by
  revert h
  cases r <;> cases q <;> decide

/-- The next rail of the bring-up is another rail. -/
theorem nextRail_ne {r n : Rail} (h : nextRail r = some n) : n ≠ r := by
  revert h
  cases r <;> cases n <;> decide

/-- Taking the FALLING rails in turn stops at the first that is not OFF (R76). -/
theorem takeFalling_of_off (r : Rail) (rest : List Rail) (h : s.railState r = .off) :
    s.takeFalling (r :: rest) = s.takeFalling rest := by
  rw [State.takeFalling, if_pos h]

/-- The first rail that is not OFF starts to fall (R76). -/
theorem takeFalling_of_ne (r : Rail) (rest : List Rail) (h : s.railState r ≠ .off) :
    s.takeFalling (r :: rest) =
      s.modRail r (fun u => { u with state := .falling, streak := 0, timer := some (msTicks s.prof.railSettle[r.ix]) }) := by
  rw [State.takeFalling, if_neg h]

/-- Every rail is OFF (R70). -/
theorem railsOff_iff : s.railsOff = true ↔ ∀ r : Rail, s.railState r = .off := by
  simp [State.railsOff, mem_allRails]

/-- A rail that starts to fall: its enable is released, its level kept and its settle time started, and the other rails, the run
control and the own held stay (R76). -/
theorem takeFalling_falls (r : Rail) (rest : List Rail) (h : s.railState r ≠ .off) :
    let t := s.takeFalling (r :: rest)
    t.railState r = .falling ∧ t.railEnable r = false ∧ t.railLevelLine r = s.rlu.rails[r.ix].level ∧
      t.rlu.rails[r.ix].timer = some (msTicks s.prof.railSettle[r.ix]) ∧
      (∀ q : Rail, q ≠ r → t.rlu.rails[q.ix] = s.rlu.rails[q.ix]) ∧ t.rcu = s.rcu ∧ t.bdu = s.bdu := by
  intro t
  have moved : t = s.modRail r (fun u =>
      { u with state := .falling, streak := 0, timer := some (msTicks s.prof.railSettle[r.ix]) }) := takeFalling_of_ne r rest h
  have falling : t.railState r = .falling := by
    rw [moved]; exact congrArg RailUnit.state (State.modRail_rails s r _)
  refine ⟨falling, ?_, ?_, ?_, fun q other => ?_, ?_, ?_⟩
  · unfold State.railEnable
    rw [falling]
  · unfold State.railLevelLine
    rw [falling, if_neg (by decide), moved, State.modRail_rails]
  · rw [moved, State.modRail_rails]
  · rw [moved]
    exact State.modRail_rails_ne s r q _ (Rail.ix_ne (Ne.symm other))
  all_goals rw [moved]; rfl

/-- Taking rails down leaves the rails it does not take (R76). -/
theorem takeFalling_rails_other (r : Rail) (rails : List Rail) (h : r ∉ rails) :
    (s.takeFalling rails).rlu.rails[r.ix] = s.rlu.rails[r.ix] := by
  induction rails with
  | nil => unfold State.takeFalling State.finishWinddown; split <;> rfl
  | cons q rest ih =>
    obtain ⟨other, absent⟩ : r ≠ q ∧ r ∉ rest := by simpa using h
    by_cases off : s.railState q = .off
    · rw [takeFalling_of_off q rest off, ih absent]
    · rw [takeFalling_of_ne q rest off]
      exact State.modRail_rails_ne s q r _ (Rail.ix_ne (Ne.symm other))

/-- A FALLING rail that is down is OFF, and the rails below it are taken from a state that differs in it, and in the board
overcurrent streak, alone (R69, R76). -/
theorem railDown_eq (r : Rail) : ∃ streak : Nat, s.railDown r =
    State.takeFalling { s with rlu := { s.rlu with
      rails := s.rlu.rails.set r.ix RailUnit.initial, boardStreak := streak } } (railsBelow r) := by
  unfold State.railDown
  dsimp only
  split
  · exact ⟨0, rfl⟩
  · exact ⟨s.rlu.boardStreak, rfl⟩

/-- A rail that is down is OFF (R76). -/
theorem railDown_rails (r : Rail) : (s.railDown r).rlu.rails[r.ix] = RailUnit.initial := by
  obtain ⟨streak, down⟩ := railDown_eq (s := s) r
  have below : r ∉ railsBelow r := by cases r <;> decide
  rw [down, takeFalling_rails_other r _ below]
  exact Vector.getElem_set_self ..

/-- In a power-down the last steps release what is held and enter DONE (R49, R68). -/
theorem finishWinddown_of (h : s.rcu.state = .windDown) (h' : s.rcu.poweringDown = true) :
    s.finishWinddown = s.releaseAll.enterDone s.rcu.endCause := if_pos ⟨h, h'⟩

/-- The last steps of a power-down: DONE with the cause it had, nothing held, and the rails as they stand (R49, R68). -/
theorem finishWinddown_spec (h : s.rcu.state = .windDown) (h' : s.rcu.poweringDown = true) :
    let t := s.finishWinddown
    t.rcu.state = .done ∧ t.rcu.endCause = s.rcu.endCause ∧ t.bdu.ownHeld = 0 ∧ t.rlu = s.rlu := by
  intro t
  have ended : t = s.releaseAll.enterDone s.rcu.endCause := finishWinddown_of h h'
  rw [ended]
  exact ⟨rfl, rfl, rfl, rfl⟩

/-! ### A rail reading -/

variable {r : Rail} {v : Half}

/-- A reading of a rail is within tolerance of the rail's level (R70). -/
def State.railGood (s : State) (r : Rail) (v : Half) : Prop :=
  s.prof.levels[r.ix][s.rlu.rails[r.ix].level] ≤ v.toNat + s.prof.tolerance ∧
    v.toNat ≤ s.prof.levels[r.ix][s.rlu.rails[r.ix].level] + s.prof.tolerance

/-- The tolerance that the judgement of a reading computes. -/
theorem railGood_iff : inTolerance s.prof.tolerance v.toNat (s.voltage r s.rlu.rails[r.ix].level) = true ↔ s.railGood r v :=
  inTolerance_iff ..

/-- A RAMPING rail within tolerance is UP, and the next one starts (R71). -/
theorem judgeRail_of_ramping (h : s.railState r = .ramping) (good : s.railGood r v) :
    s.judgeRail r v = (s.railIsUp r).afterRamped r := by
  unfold State.judgeRail
  dsimp only
  rw [show s.rlu.rails[r.ix].state = .ramping from h]
  exact if_pos (railGood_iff.2 good)

/-- A RETARGETING rail within tolerance is UP, and the rails after it are taken (R74). -/
theorem judgeRail_of_retargeting (h : s.railState r = .retargeting) (good : s.railGood r v) :
    s.judgeRail r v = (s.railIsUp r).afterRetargeted r := by
  unfold State.judgeRail
  dsimp only
  rw [show s.rlu.rails[r.ix].state = .retargeting from h]
  exact if_pos (railGood_iff.2 good)

/-- A reading outside tolerance says nothing of a rail on its way (R71, R74). -/
theorem judgeRail_of_bad (h : s.railState r = .ramping ∨ s.railState r = .retargeting) (bad : ¬s.railGood r v) :
    s.judgeRail r v = s := by
  unfold State.judgeRail
  dsimp only
  rcases h with h | h
  · rw [show s.rlu.rails[r.ix].state = .ramping from h]
    exact if_neg (fun good => bad (railGood_iff.1 good))
  · rw [show s.rlu.rails[r.ix].state = .retargeting from h]
    exact if_neg (fun good => bad (railGood_iff.1 good))

/-- An OFF rail's reading says nothing (R70). -/
theorem judgeRail_of_off (h : s.railState r = .off) : s.judgeRail r v = s := by
  unfold State.judgeRail
  dsimp only
  rw [show s.rlu.rails[r.ix].state = .off from h]

/-- A rail that is UP is held to its level (R73). -/
theorem judgeRail_of_up (h : s.railState r = .up) :
    s.judgeRail r v =
      s.superviseRail r (inTolerance s.prof.tolerance v.toNat (s.voltage r s.rlu.rails[r.ix].level)) := by
  unfold State.judgeRail
  dsimp only
  rw [show s.rlu.rails[r.ix].state = .up from h]

/-- A FALLING rail is down below one tenth of its level, and stays otherwise (R76). -/
theorem judgeRail_of_falling (h : s.railState r = .falling) :
    s.judgeRail r v =
      if v.toNat * 10 < s.prof.levels[r.ix][s.rlu.rails[r.ix].level] then s.railDown r else s := by
  unfold State.judgeRail
  dsimp only
  rw [show s.rlu.rails[r.ix].state = .falling from h]
  rfl

end

end Sys2Proof.Machine

namespace Sys2Proof

open Machine

/-! ### The statements -/

/-- Settles O35: the armed comparator trips the socket, and a trip is said once by `trip_trips`. -/
theorem instantTripRetriesOrFails : Obligations.InstantTripRetriesOrFails := by
  refine ⟨fun s i c quiet => ?_, fun s i c closed powered unsettled above => ⟨s.trip i (2 * s.rlu.sockets[i].threshold), ?_,
    trip_trips s i _ powered⟩⟩
  · refine congrArg Host.Outcome.next (if_neg ?_)
    rintro ⟨armed, above⟩
    rw [Bool.and_eq_true, Bool.not_eq_true'] at armed
    rcases quiet with h | h | h
    · exact Bool.false_ne_true (h.symm.trans armed.1)
    · exact Bool.false_ne_true (armed.2.symm.trans h)
    · exact absurd above (Nat.not_lt.2 h)
  · exact congrArg Host.Outcome.next (if_pos ⟨by rw [closed, unsettled]; rfl, above⟩)

/-- Settles O34: the reading is judged once handed over, by the trip first, then by the open supervision of the socket's
state. -/
theorem currentReadingIsSupervised : Obligations.CurrentReadingIsSupervised := by
  refine fun s i => ⟨fun powering unchecked => congrArg Host.Outcome.next (if_pos ⟨powering, unchecked⟩), fun c due => ?_⟩
  intro p d r read supervised opens
  have taken : exec (.socketCurrentReading i c) s = .next (read.superviseCurrent i c) :=
    congrArg Host.Outcome.next (handOver_ending _ due)
  have state : read.socketState i = s.socketState i := by
    show (s.handed.modRecord i (fun r => { r with lastCurrent := c })).acu.records[i].state = _
    rw [State.modRecord_records, if_pos rfl]; rfl
  refine ⟨fun closed => taken.trans (congrArg Host.Outcome.next (superviseCurrent_of_open closed)), fun closed powered above full => ?_,
    fun closed room => ?_⟩
  · exact ⟨_, taken.trans (congrArg Host.Outcome.next (superviseCurrent_of_trip closed above full)),
      trip_trips read i _ (by rw [state]; exact powered)⟩
  let q := { p with debounce := d }
  have qOf : (supervised q).rlu.sockets[i] = q := by
    show (read.modPower i (fun _ => q)).rlu.sockets[i] = q
    rw [State.modPower_sockets, if_pos rfl]
  have counted (u : State) (h : (supervised q).superviseOpen i c = u) : exec (.socketCurrentReading i c) s = .next u :=
    taken.trans (congrArg Host.Outcome.next ((superviseCurrent_of_noTrip (s := read) closed room).trans h))
  have again (f : SocketPower → SocketPower) : (supervised q).modPower i f = supervised (f q) :=
    modPower_modPower (s := read) i (fun _ => q) f
  have failing : read.failsSocket ((supervised q).failSocket i .openLoad (.openLoad c)) i .openLoad (.openLoad c) :=
    failsSocket_of_modPower read _ i (fun _ => q) rfl _ _ (failSocket_fails (supervised q) i _ _)
  have inState {st : SocketState} (h : s.socketState i = st) : (supervised q).socketState i = st := state.trans h
  refine ⟨fun unwatched => counted _ (superviseOpen_of_none ?_), fun low powering check => ?_, fun running => ?_⟩
  · rw [qOf]
    exact unwatched.imp inState (And.imp_left inState)
  · have checkOf : (supervised q).rlu.sockets[i].openCheck = some low := by rw [qOf]; exact check
    have checked := superviseOpen_of_check (s := supervised q) (i := i) (c := c) (low := low) (inState powering) checkOf
    refine ⟨fun floor => counted _ (checked.trans ((checkOpen_of_floor (s := supervised q) low floor).trans ?_)),
      fun below few => counted _ (checked.trans ((checkOpen_of_few (s := supervised q) below few).trans (again _))),
      fun below many => ⟨_, counted _ (checked.trans (checkOpen_of_many (s := supervised q) below many)), failing⟩⟩
    rw [settleSocket_eq, again]
    exact modRecord_modRecord (s := { s.handed with rlu := { s.rlu with sockets := s.rlu.sockets.set i _ } }) i
      (fun r => { r with lastCurrent := c }) (SocketRecord.become _)
  · have watched := superviseOpen_of_running (s := supervised q) (i := i) (c := c) (inState running)
    have streak : (supervised q).rlu.sockets[i].openStreak = p.openStreak := by rw [qOf]
    refine ⟨fun floor => counted _ (watched.trans ((watchOpen_of_floor (s := supervised q) floor).trans (again _))),
      fun below few => counted _ (watched.trans ((watchOpen_of_few (s := supervised q) below (by rw [streak]; exact few)).trans (again _))),
      fun below many => ⟨_, counted _ (watched.trans (watchOpen_of_many (s := supervised q) below (by rw [streak]; exact many))), failing⟩⟩

/-- Settles O36: the judgement of a rail's reading, state by state. -/
theorem railReadingIsJudgedByItsState : Obligations.RailReadingIsJudgedByItsState := by
  intro s r v due h u level good
  have taken : exec (.railReading r v) s = .next (h.judgeRail r v) := congrArg Host.Outcome.next (handOver_ending _ due)
  have judged {t : State} (e : h.judgeRail r v = t) : exec (.railReading r v) s = .next t :=
    taken.trans (congrArg Host.Outcome.next e)
  refine ⟨fun off => judged (judgeRail_of_off off), fun way bad => judged (judgeRail_of_bad way bad),
    fun ramping within => ⟨_, judged (judgeRail_of_ramping ramping within), ?_⟩, fun up within => judged ?_,
    fun up bad few => judged ?_, fun up bad many => judged ?_, fun retargeting within => ?_, fun falling high => judged ?_,
    fun falling low => ?_⟩
  · have upNow : (h.railIsUp r).rlu.rails[r.ix] = { u with state := .up, streak := 0, timer := none } :=
      State.modRail_rails h r _
    unfold State.afterRamped
    cases next : nextRail r with
    | none => exact ⟨upNow, fun n e => absurd e (Option.some_ne_none n).symm, rfl, rfl, rfl⟩
    | some n =>
      refine ⟨?_, fun m e => ?_, rfl, rfl, rfl⟩
      · exact (State.modRail_rails_ne (h.railIsUp r) n r _ (Rail.ix_ne (nextRail_ne next))).trans upNow
      · cases e
        exact State.modRail_rails (h.railIsUp r) n _
  · exact (judgeRail_of_up (s := h) up).trans (if_pos ((railGood_iff (s := h)).2 within))
  · exact (judgeRail_of_up (s := h) up).trans ((if_neg (fun within => bad ((railGood_iff (s := h)).1 within))).trans (if_pos few))
  · exact (judgeRail_of_up (s := h) up).trans
      ((if_neg (fun within => bad ((railGood_iff (s := h)).1 within))).trans (if_neg (Nat.not_lt.2 many)))
  · have upNow := judgeRail_of_retargeting (s := h) retargeting within
    refine ⟨fun tr transit stage => ?_, fun none => judged (upNow.trans ?_)⟩
    · have after : (h.railIsUp r).afterRetargeted r = (h.railIsUp r).takeRetarget tr.target (railsAfter r) := by
        unfold State.afterRetargeted
        rw [show (h.railIsUp r).rcu.transit = some tr from transit]
        exact if_pos stage
      refine ⟨fun e => ?_, fun e => ?_, fun e => ?_⟩ <;> subst e <;> exact judged (upNow.trans after)
    · unfold State.afterRetargeted
      rw [show (h.railIsUp r).rcu.transit = Option.none from none]
      rfl
  · exact (judgeRail_of_falling (s := h) falling).trans (if_neg (by show ¬v.toNat * 10 < level; omega))
  · have down : h.judgeRail r v = h.railDown r := (judgeRail_of_falling (s := h) falling).trans (if_pos (by show v.toNat * 10 < level; omega))
    refine ⟨(judged down).trans (congrArg Host.Outcome.next (if_pos falling).symm), _, judged down, railDown_rails r⟩

/-- Settles O38: the rail is down, and the rails below it are taken in turn. -/
theorem fallTimeoutTakesTheRailDown : Obligations.FallTimeoutTakesTheRailDown := by
  intro s windDown powering runs falls ends
  have runs_ne {t : State} {r : Rail} (h : t.rlu.rails[r.ix] = s.rlu.rails[r.ix]) (run : runs r) : t.railState r ≠ .off := by
    unfold State.railState
    rw [h]
    rcases run with e | e | e <;> exact fun off => by cases e.symm.trans off
  have fallen {r : Rail} (falling : s.railState r = .falling) : exec (.railFallTimeout r) s = .next (s.railDown r) :=
    congrArg Host.Outcome.next (if_pos falling)
  have falls_of {t : State} {r : Rail} {rest : List Rail}
      (lower : ∀ q : Rail, q.ix ≤ r.ix → t.rlu.rails[q.ix] = s.rlu.rails[q.ix])
      (same : t.rcu = s.rcu ∧ t.bdu = s.bdu ∧ t.ldr = s.ldr) (run : runs r) : falls (t.takeFalling (r :: rest)) r := by
    obtain ⟨state, enable, line, timer, others, rcu, bdu⟩ :=
      takeFalling_falls r rest (runs_ne (lower r (Nat.le_refl _)) run)
    refine ⟨state, enable, line.trans ?_, timer.trans ?_, fun q below => ?_, rcu.trans same.1, bdu.trans same.2.1⟩
    · rw [lower r (Nat.le_refl _)]
    · unfold State.prof
      rw [same.2.2]
    · rw [others q (fun e => absurd below (by rw [e]; exact Nat.lt_irrefl _)), lower q (Nat.le_of_lt below)]
  have ends_of {t : State} (off : ∀ r : Rail, t.railState r = .off) (same : t.rcu = s.rcu) : ends t.finishWinddown := by
    obtain ⟨done, cause, held, rlu⟩ := finishWinddown_spec (s := t) (by rw [same]; exact windDown) (by rw [same]; exact powering)
    refine ⟨railsOff_iff.2 (fun r => ?_), done, cause.trans (by rw [same]), held⟩
    unfold State.railState
    rw [rlu]
    exact off r
  refine ⟨fun falling => ⟨_, fallen falling, railDown_rails _, ?_⟩, fun falling => ⟨_, fallen falling, railDown_rails _, ?_⟩,
    fun falling => ⟨_, fallen falling, railDown_rails _, ?_⟩⟩
  · obtain ⟨streak, down⟩ := railDown_eq (s := s) .c
    rw [down, show railsBelow .c = [.b, .a] from rfl]
    generalize hw : ({ s with rlu := { s.rlu with
      rails := s.rlu.rails.set (Rail.ix .c) RailUnit.initial, boardStreak := streak } } : State) = w
    have same : w.rcu = s.rcu ∧ w.bdu = s.bdu ∧ w.ldr = s.ldr := by rw [← hw]; exact ⟨rfl, rfl, rfl⟩
    have b : w.rlu.rails[Rail.ix .b] = s.rlu.rails[Rail.ix .b] := by rw [← hw]; simp [Rail.ix]
    have a : w.rlu.rails[Rail.ix .a] = s.rlu.rails[Rail.ix .a] := by rw [← hw]; simp [Rail.ix]
    have c : w.railState .c = .off := by rw [← hw]; simp [State.railState, Rail.ix, RailUnit.initial]
    refine ⟨fun run => falls_of (fun q le => ?_) same run, fun off => ?_⟩
    · cases q with
      | a => exact a
      | b => exact b
      | c => exact absurd le (by decide)
    · have offB : w.railState .b = .off := (congrArg RailUnit.state b).trans off
      rw [takeFalling_of_off _ _ offB]
      refine ⟨?_, fun run => falls_of (fun q le => ?_) same run, fun offA => ?_⟩
      · unfold State.railState
        rw [takeFalling_rails_other .b [.a] (by decide)]
        exact offB
      · cases q with
        | a => exact a
        | b => exact absurd le (by decide)
        | c => exact absurd le (by decide)
      · have offA' : w.railState .a = .off := (congrArg RailUnit.state a).trans offA
        rw [takeFalling_of_off _ _ offA']
        exact ends_of (fun r => by cases r; exacts [offA', offB, c]) same.1
  · obtain ⟨streak, down⟩ := railDown_eq (s := s) .b
    rw [down, show railsBelow .b = [.a] from rfl]
    generalize hw : ({ s with rlu := { s.rlu with
      rails := s.rlu.rails.set (Rail.ix .b) RailUnit.initial, boardStreak := streak } } : State) = w
    have same : w.rcu = s.rcu ∧ w.bdu = s.bdu ∧ w.ldr = s.ldr := by rw [← hw]; exact ⟨rfl, rfl, rfl⟩
    have b : w.railState .b = .off := by rw [← hw]; simp [State.railState, Rail.ix, RailUnit.initial]
    have a : w.rlu.rails[Rail.ix .a] = s.rlu.rails[Rail.ix .a] := by rw [← hw]; simp [Rail.ix]
    have c : w.rlu.rails[Rail.ix .c] = s.rlu.rails[Rail.ix .c] := by rw [← hw]; simp [Rail.ix]
    refine ⟨fun run => falls_of (fun q le => ?_) same run, fun offA offC => ?_⟩
    · cases q with
      | a => exact a
      | b => exact absurd le (by decide)
      | c => exact absurd le (by decide)
    · have offA' : w.railState .a = .off := (congrArg RailUnit.state a).trans offA
      rw [takeFalling_of_off _ _ offA']
      exact ends_of (fun r => by cases r; exacts [offA', b, (congrArg RailUnit.state c).trans offC]) same.1
  · obtain ⟨streak, down⟩ := railDown_eq (s := s) .a
    rw [down]
    obtain ⟨done, cause, held, rlu⟩ := finishWinddown_spec (s := { s with rlu := { s.rlu with
      rails := s.rlu.rails.set (Rail.ix .a) RailUnit.initial, boardStreak := streak } }) windDown powering
    exact ⟨done, cause, held⟩

end Sys2Proof
end

section
/-! SUPPORT. Interruptions: what is left of the board's power, of the records and of the run (R44 to R47, R77 to R79). -/

namespace Sys2Proof.Machine

section
variable {s : State}

/-! ### The removal of all power -/

/-- The state once all power is removed (R77): the rails are down at once, nothing is held or asked for, there is no token, and
every gate is closed. -/
def State.powerless (s : State) (sockets : Vector SocketPower 16) (heaters : Vector Heater 16) (ptu : Ptu) : State :=
  { s with
    rlu := { s.rlu with rails := Vector.replicate 3 RailUnit.initial, sockets := sockets, deferred := false, boardStreak := 0 }
    thu := { s.thu with heaters := heaters, waitQueue := [], anchor := none, tokens := 0, releasePending := false }
    ptu := ptu
    bdu := { s.bdu with queue := [], ownHeld := 0 }
    acu := { s.acu with stationGate := false, socketGate := Vector.replicate 16 false, powered := Vector.replicate 16 false } }

/-- Switches open, heaters ended, and the engine stopped (R77, R107, R125). -/
def State.isCut (s : State) (sockets : Vector SocketPower 16) (heaters : Vector Heater 16) (ptu : Ptu) : Prop :=
  ptu.engine = .stopped ∧ (∀ i : Socket, sockets[i] = SocketPower.initial) ∧
    ∀ i : Socket, heaters[i] = endHeater s.thu.heaters[i]

/-- An abandoned pass leaves the engine STOPPED (R125). -/
theorem abandon_engine : s.abandon.ptu.engine = .stopped := by
  unfold State.abandon
  split
  · next stopped => exact stopped
  · rfl

/-- What the removal of all power leaves and what it writes (R77). -/
theorem removePower_frame (s : State) : ∃ sockets heaters ptu,
    s.removePower = s.powerless sockets heaters ptu ∧ s.isCut sockets heaters ptu := by
  obtain ⟨heaters, heated, cold⟩ := mapHeaters_frame (s.mapPower (fun _ p => unpowered p)) (fun _ h => endHeater h)
  have unpowered : ∀ i : Socket, (s.mapPower (fun _ p => unpowered p)).rlu.sockets[i] = SocketPower.initial :=
    fun i => State.mapPower_sockets s _ i
  have same : (s.mapPower (fun _ p => Machine.unpowered p)) =
      { s with rlu := { s.rlu with sockets := (s.mapPower (fun _ p => Machine.unpowered p)).rlu.sockets } } := rfl
  generalize (s.mapPower (fun _ p => Machine.unpowered p)).rlu.sockets = sockets at unpowered same
  rw [same] at heated cold
  unfold State.removePower State.stopHeating
  rw [same, heated]
  dsimp only
  generalize hu : (State.railsDisabled { s with
    rlu := { s.rlu with sockets := sockets }
    thu := { s.thu with heaters := heaters, waitQueue := [], anchor := none, tokens := 0, releasePending := false } }) = u
  rw [abandon_frame u]
  refine ⟨sockets, heaters, u.abandon.ptu, ?_, abandon_engine, unpowered, cold⟩
  subst hu
  rfl

/-! ### Interruptions of a run and of a winddown -/

/-- The entry of an interruption (R150 to R152). -/
def State.interruption (s : State) (cause : IntCause) (count : Nat) : Entry :=
  { finding := .interruption cause count, final := false, socket := none, phase := s.rcu.phase, round := s.biu.roundNumber
    credit := none }

/-- The run control of a run that is over (R45, R47, R49). -/
def Rcu.ended (r : Rcu) (cause : Option EndCause) : Rcu :=
  { r with state := .done, sub := none, remembered := none, transit := none, advance := none, endCause := cause
           poweringDown := false }

/-- A socket that holds an allowance becomes PARKED (R44). -/
def SocketState.park (st : SocketState) : SocketState := if st.holds then .parked else st

/-- A socket that holds an allowance, or is PARKED, becomes OFF (R45, R47). -/
def SocketState.turnOff (st : SocketState) : SocketState := if st.holds = true ∨ st = .parked then .off else st

/-- The run control once an interruption is taken in ACTIVE: RECOVERING, or DONE above the limit (R44, R45). -/
def State.rcuInterrupted (s : State) (cause : IntCause) : Rcu :=
  if s.prof.interruptionLimit < s.rcu.intCount + 1 then s.rcu.interrupted.ended (some .stopped)
  else s.rcu.interrupted.recover cause

/-- A socket's state once an interruption is taken in ACTIVE (R44, R45). -/
def State.stateInterrupted (s : State) (st : SocketState) : SocketState :=
  if s.prof.interruptionLimit < s.rcu.intCount + 1 then st.turnOff else st.park

/-- A power removal with its entry written: the ACU has the gates closed, the entry taken, and each record in the state that
`become` says (R44, R47, R149). -/
def State.acuInterrupted (s : State) (acu : Acu) (e : Entry) (become : SocketState → SocketState) : Prop :=
  s.takesEntry { s with acu := acu } e ∧ acu.stationGate = false ∧ acu.socketGate = Vector.replicate 16 false ∧
    acu.powered = Vector.replicate 16 false ∧
    ∀ i : Socket, acu.records[i] = { s.acu.records[i] with state := become (s.socketState i) }

/-- Parking the sockets. -/
theorem parkSockets_frame (s : State) : ∃ records : Vector SocketRecord 16,
    s.parkSockets = { s with acu := { s.acu with records := records } } ∧
      ∀ i : Socket, records[i] = { s.acu.records[i] with state := (s.socketState i).park } := by
  obtain ⟨records, parked, each⟩ := mapRecords_frame s (fun _ r => if r.state.holds then { r with state := .parked } else r)
  refine ⟨records, parked, fun i => (each i).trans ?_⟩
  unfold State.socketState SocketState.park
  split <;> rfl

/-- Turning the sockets off. -/
theorem socketsOff_frame (s : State) : ∃ records : Vector SocketRecord 16,
    s.socketsOff = { s with acu := { s.acu with records := records } } ∧
      ∀ i : Socket, records[i] = { s.acu.records[i] with state := (s.socketState i).turnOff } := by
  obtain ⟨records, off, each⟩ :=
    mapRecords_frame s (fun _ r => if r.state.holds ∨ r.state = .parked then { r with state := .off } else r)
  refine ⟨records, off, fun i => (each i).trans ?_⟩
  unfold State.socketState SocketState.turnOff
  split <;> rfl

/-- Turning the PARKED sockets off. -/
theorem parkedOff_frame (s : State) : ∃ records : Vector SocketRecord 16,
    s.parkedOff = { s with acu := { s.acu with records := records } } ∧
      ∀ i : Socket, records[i] = { s.acu.records[i] with state := if s.socketState i = .parked then .off else s.socketState i } := by
  obtain ⟨records, off, each⟩ := mapRecords_frame s (fun _ r => if r.state = .parked then { r with state := .off } else r)
  refine ⟨records, off, fun i => (each i).trans ?_⟩
  unfold State.socketState
  split <;> rfl

/-- A socket parked and then turned off is turned off. -/
theorem park_turnOff (st : SocketState) : (if st.park = .parked then SocketState.off else st.park) = st.turnOff := by
  cases st <;> rfl

/-- An entry written once the power is removed: the ACU changes alone, by the entry (R149). -/
theorem writeEntry_acuInterrupted {t : State} {e : Entry} {become : SocketState → SocketState} {records : Vector SocketRecord 16}
    (acu : t.acu = { s.acu with records := records, stationGate := false, socketGate := Vector.replicate 16 false
                                powered := Vector.replicate 16 false })
    (each : ∀ i : Socket, records[i] = { s.acu.records[i] with state := become (s.socketState i) }) :
    s.acuInterrupted (t.writeEntry e).acu e become := by
  have written := writeEntry_takesEntry t e
  unfold State.takesEntry at written
  rw [acu] at written
  refine ⟨written, ?_, ?_, ?_, fun i => ?_⟩
  · rw [State.writeEntry_stationGate, acu]
  · rw [State.writeEntry_socketGate, acu]
  · rw [State.writeEntry_powered, acu]
  · rw [State.writeEntry_records, acu]
    exact each i

/-- An interruption in ACTIVE outside RECOVERING, field by field (R44, R45, R77). -/
theorem interruptActive_frame (s : State) (cause : IntCause) : ∃ sockets heaters ptu acu,
    s.interruptActive cause = { s.powerless sockets heaters ptu with rcu := s.rcuInterrupted cause, acu := acu } ∧
      s.isCut sockets heaters ptu ∧
      s.acuInterrupted acu (s.interruption cause (s.rcu.intCount + 1)) s.stateInterrupted := by
  obtain ⟨sockets, heaters, ptu, removed, cut⟩ := removePower_frame s
  unfold State.interruptActive
  rw [removed]
  obtain ⟨records, parked, each⟩ := parkSockets_frame (s.powerless sockets heaters ptu)
  rw [parked]
  dsimp only
  generalize hw : ({ s.powerless sockets heaters ptu with
    rcu := (s.powerless sockets heaters ptu).rcu.interrupted
    acu := { (s.powerless sockets heaters ptu).acu with records := records } } : State) = w
  have entry : w.writeInterruption cause = w.writeEntry (s.interruption cause (s.rcu.intCount + 1)) := by rw [← hw]; rfl
  have acu : w.acu = { s.acu with records := records, stationGate := false, socketGate := Vector.replicate 16 false
                                  powered := Vector.replicate 16 false } := by rw [← hw]; rfl
  rw [entry, writeEntry_acu]
  obtain ⟨taken, station, socket, powered, states⟩ :=
    writeEntry_acuInterrupted (s := s) (e := s.interruption cause (s.rcu.intCount + 1)) (become := SocketState.park) acu each
  generalize (w.writeEntry (s.interruption cause (s.rcu.intCount + 1))).acu = a at taken station socket powered states
  have above : ({ w with acu := a } : State).prof.interruptionLimit < ({ w with acu := a } : State).rcu.intCount ↔
      s.prof.interruptionLimit < s.rcu.intCount + 1 := by rw [← hw]; exact Iff.rfl
  unfold State.rcuInterrupted State.stateInterrupted
  by_cases stops : s.prof.interruptionLimit < s.rcu.intCount + 1
  · rw [if_pos (above.2 stops), if_pos stops]
    simp only [if_pos stops]
    obtain ⟨rested, off, eachOff⟩ := parkedOff_frame { w with acu := a }
    refine ⟨sockets, heaters, ptu, { a with records := rested }, ?_, cut, taken, station, socket, powered, fun i => ?_⟩
    · rw [off, ← hw]; rfl
    · refine (eachOff i).trans ?_
      unfold State.socketState
      rw [show ({ w with acu := a } : State).acu.records[i] = _ from states i]
      dsimp only
      rw [park_turnOff]
      rfl
  · rw [if_neg (fun h => stops (above.1 h)), if_neg stops]
    simp only [if_neg stops]
    refine ⟨sockets, heaters, ptu, a, ?_, cut, taken, station, socket, powered, states⟩
    rw [← hw]; rfl

/-- An interruption in WINDDOWN, field by field (R47, R77). -/
theorem interruptWinddown_frame (s : State) (cause : IntCause) : ∃ sockets heaters ptu acu,
    s.interruptWinddown cause =
        { s.powerless sockets heaters ptu with
          rcu := Rcu.ended { s.rcu with intCount := s.rcu.intCount + 1 } s.rcu.endCause, acu := acu } ∧
      s.isCut sockets heaters ptu ∧
      s.acuInterrupted acu (s.interruption cause (s.rcu.intCount + 1)) SocketState.turnOff := by
  obtain ⟨sockets, heaters, ptu, removed, cut⟩ := removePower_frame s
  unfold State.interruptWinddown
  rw [removed]
  obtain ⟨records, off, each⟩ := socketsOff_frame (s.powerless sockets heaters ptu)
  rw [off]
  dsimp only
  generalize hw : ({ s.powerless sockets heaters ptu with
    rcu := { (s.powerless sockets heaters ptu).rcu with intCount := (s.powerless sockets heaters ptu).rcu.intCount + 1 }
    acu := { (s.powerless sockets heaters ptu).acu with records := records } } : State) = w
  have entry : w.writeInterruption cause = w.writeEntry (s.interruption cause (s.rcu.intCount + 1)) := by rw [← hw]; rfl
  have acu : w.acu = { s.acu with records := records, stationGate := false, socketGate := Vector.replicate 16 false
                                  powered := Vector.replicate 16 false } := by rw [← hw]; rfl
  rw [entry, writeEntry_acu]
  have changed :=
    writeEntry_acuInterrupted (s := s) (e := s.interruption cause (s.rcu.intCount + 1)) (become := SocketState.turnOff) acu each
  generalize (w.writeEntry (s.interruption cause (s.rcu.intCount + 1))).acu = a at changed
  refine ⟨sockets, heaters, ptu, a, ?_, cut, changed⟩
  rw [← hw]; rfl

/-- What the pins, the budget and the records show once all power is removed (R77). -/
theorem powerless_facts (sockets : Vector SocketPower 16) (heaters : Vector Heater 16) (ptu : Ptu) (rcu : Rcu) (acu : Acu)
    (e : Entry) (become : SocketState → SocketState) (cut : s.isCut sockets heaters ptu)
    (changed : s.acuInterrupted acu e become) :
    let t : State := { s.powerless sockets heaters ptu with rcu := rcu, acu := acu }
    t.railsOff = true ∧ t.ptu.engine = .stopped ∧ s.takesEntry t e ∧
    ∀ i : Socket, t.switchLine i = false ∧ t.heaterLine i = false ∧
      t.acu.records[i].credit = s.acu.records[i].credit ∧ t.acu.records[i].retries = s.acu.records[i].retries ∧
      t.socketState i = become (s.socketState i) := by
  intro t
  obtain ⟨engine, opened, cold⟩ := cut
  obtain ⟨taken, _, _, _, records⟩ := changed
  refine ⟨rfl, engine, taken, fun i => ⟨?_, ?_, ?_, ?_, ?_⟩⟩
  · exact congrArg SocketPower.closed (opened i)
  · show (heaters[i].phase == .on) = false
    rw [cold i]
    rfl
  · show acu.records[i].credit = _
    rw [records i]
  · show acu.records[i].retries = _
    rw [records i]
  · show acu.records[i].state = _
    rw [records i]

/-! ### An interruption in each state -/

theorem interrupt_of_active {cause : IntCause} (active : s.rcu.state = .active) (sub : s.rcu.sub ≠ some .recovering) :
    s.interrupt cause = s.interruptActive cause := by
  unfold State.interrupt
  rw [active]
  exact if_neg sub

theorem interrupt_of_recovering {cause : IntCause} (active : s.rcu.state = .active) (sub : s.rcu.sub = some .recovering) :
    s.interrupt cause = s.interruptRecovering cause := by
  unfold State.interrupt
  rw [active]
  exact if_pos sub

theorem interrupt_of_windDown {cause : IntCause} (windDown : s.rcu.state = .windDown) :
    s.interrupt cause = s.interruptWinddown cause := by
  unfold State.interrupt
  rw [windDown]

theorem interrupt_of_rest {cause : IntCause} (rest : s.rcu.state = .idle ∨ s.rcu.state = .done) :
    s.interrupt cause = s.writeEntry (s.interruption cause s.rcu.intCount) := by
  unfold State.interrupt
  rcases rest with e | e <;> rw [e] <;> rfl

/-- Outside the transmitting states no interruption is taken (R47). -/
theorem interrupt_of_silent {cause : IntCause} (h : s.rcu.state = .reset ∨ s.rcu.state = .loading ∨ s.rcu.state = .loadFail ∨
    s.rcu.state = .listen ∨ s.rcu.state = .muted) : s.interrupt cause = s := by
  unfold State.interrupt
  rcases h with e | e | e | e | e <;> rw [e]

/-- A signal taken in RECOVERING: its entry, and its condition (R46). -/
theorem interruptRecovering_eq (cause : IntCause) :
    s.interruptRecovering cause = { s with
      acu := (s.writeEntry (s.interruption cause s.rcu.intCount)).acu
      rcu := { s.rcu with recoverBulk := s.rcu.recoverBulk || cause == .bulk
                          recoverUnheard := s.rcu.recoverUnheard || cause == .unheard } } := by
  unfold State.interruptRecovering
  rw [show s.writeInterruption cause = s.writeEntry (s.interruption cause s.rcu.intCount) from rfl, writeEntry_acu]

/-! ### Bulk -/

variable {v : Half}

/-- A low reading of a good bulk is counted to the fourth (R78). -/
theorem judgeBulk_of_low (good : s.rlu.bulkLow = false) (low : v.toNat < s.prof.bulkThreshold) :
    s.judgeBulk v =
      if s.rlu.lowStreak + 1 < 4 then { s with rlu := { s.rlu with lowStreak := s.rlu.lowStreak + 1 } } else s.bulkGoesLow :=
  (if_pos low).trans (if_neg (by rw [good]; exact Bool.false_ne_true))

/-- A high reading of a low bulk is counted to the hundredth (R78). -/
theorem judgeBulk_of_high (bad : s.rlu.bulkLow = true) (high : s.prof.bulkThreshold ≤ v.toNat) :
    s.judgeBulk v =
      if s.rlu.highStreak + 1 < 100 then { s with rlu := { s.rlu with highStreak := s.rlu.highStreak + 1 } }
      else s.bulkGoesGood :=
  (if_neg (Nat.not_lt.2 high)).trans (if_pos bad)

end

end Sys2Proof.Machine

namespace Sys2Proof

open Machine

/-- Settles O37: each state's action on an interruption, said field by field. -/
theorem settleTimeoutInterruptsTheRun : Obligations.SettleTimeoutInterruptsTheRun := by
  refine ⟨fun s r => ⟨fun way => congrArg Host.Outcome.next (if_pos way),
    fun still stays => congrArg Host.Outcome.next (if_neg (fun way => way.elim still stays))⟩, fun s cause => ?_⟩
  intro t written
  have writes {u : State} {count : Nat} (h : t = u) (taken : s.takesEntry u (s.interruption cause count)) : written count := by
    have acu : t.acu = u.acu := congrArg State.acu h
    exact ⟨fun room => (congrArg Acu.history acu).trans (taken.1 room).1,
      fun full => ⟨(congrArg Acu.history acu).trans (taken.2 (Nat.le_of_eq full.symm)).1,
        (congrArg Acu.overflow acu).trans (taken.2 (Nat.le_of_eq full.symm)).2⟩⟩
  refine ⟨fun runs => ?_, fun active sub => ?_, fun rest => ?_, interrupt_of_silent⟩
  · by_cases windDown : s.rcu.state = .windDown
    · obtain ⟨sockets, heaters, ptu, acu, interrupted, cut, changed⟩ := interruptWinddown_frame s cause
      have ended := (interrupt_of_windDown (cause := cause) windDown).trans interrupted
      obtain ⟨off, engine, taken, each⟩ := powerless_facts sockets heaters ptu
        (Rcu.ended { s.rcu with intCount := s.rcu.intCount + 1 } s.rcu.endCause) acu _ _ cut changed
      have wrote := writes ended taken
      have idle : s.rcu.state ≠ .active := by rw [windDown]; decide
      clear_value written
      subst t
      rw [ended]
      refine ⟨rfl, off, rfl, rfl, rfl, rfl, engine, rfl, rfl, rfl, rfl, rfl, rfl, wrote, fun i => ?_,
        fun active => absurd active idle, fun _ => ⟨rfl, (if_pos windDown).symm, fun i => ?_⟩⟩
      · obtain ⟨switch, heater, credit, retries, _⟩ := each i
        exact ⟨switch, heater, credit, retries⟩
      · exact (each i).2.2.2.2
    · obtain ⟨active, sub⟩ := runs.resolve_right windDown
      obtain ⟨sockets, heaters, ptu, acu, interrupted, cut, changed⟩ := interruptActive_frame s cause
      have ended := (interrupt_of_active (cause := cause) active sub).trans interrupted
      obtain ⟨off, engine, taken, each⟩ := powerless_facts sockets heaters ptu (s.rcuInterrupted cause) acu _ _ cut changed
      have wrote := writes ended taken
      clear_value written
      subst t
      rw [ended]
      unfold State.rcuInterrupted State.stateInterrupted at *
      by_cases stops : s.prof.interruptionLimit < s.rcu.intCount + 1
      · simp only [if_pos stops] at *
        refine ⟨rfl, off, rfl, rfl, rfl, rfl, engine, rfl, rfl, rfl, rfl, rfl, rfl, wrote, fun i => ?_,
          fun _ within => absurd stops (Nat.not_lt.2 within), fun _ => ⟨rfl, (if_neg windDown).symm, fun i => ?_⟩⟩
        · obtain ⟨switch, heater, credit, retries, _⟩ := each i
          exact ⟨switch, heater, credit, retries⟩
        · exact (each i).2.2.2.2
      · simp only [if_neg stops] at *
        refine ⟨rfl, off, rfl, rfl, rfl, rfl, engine, rfl, rfl, rfl, rfl, rfl, rfl, wrote, fun i => ?_,
          fun _ _ => ⟨active, rfl, rfl, beq_iff_eq, beq_iff_eq, rfl, fun i => (each i).2.2.2.2⟩,
          fun out => absurd out (not_or.2 ⟨windDown, stops⟩)⟩
        obtain ⟨switch, heater, credit, retries, _⟩ := each i
        exact ⟨switch, heater, credit, retries⟩
  · have ended := (interrupt_of_recovering (cause := cause) active sub).trans (interruptRecovering_eq cause)
    have wrote := writes ended (writeEntry_takesEntry s _)
    clear_value written
    subst t
    rw [ended]
    exact ⟨wrote, State.writeEntry_records s _, rfl⟩
  · have ended : t = _ := interrupt_of_rest (cause := cause) rest
    have wrote := writes ended (writeEntry_takesEntry s _)
    clear_value written
    subst t
    rw [ended]
    exact ⟨wrote, State.writeEntry_records s _, writeEntry_acu s _⟩

/-- Settles O39: the bulk and the board readings are judged by their streaks. -/
theorem bulkAndBoardReadingsAreJudged : Obligations.BulkAndBoardReadingsAreJudged := by
  intro s v h
  refine ⟨fun due => ?_, fun due => ?_⟩
  · have judged {t : State} (e : h.judgeBulk v = t) : exec (.bulkReading v) s = .next t :=
      congrArg Host.Outcome.next ((handOver_ending _ due).trans e)
    refine ⟨fun good high => judged ?_, fun good low few => judged ((judgeBulk_of_low (s := h) good low).trans (if_pos few)),
      fun good low many => ?_, fun bad low => judged ((if_pos low).trans (if_pos bad)),
      fun bad high few => judged ((judgeBulk_of_high (s := h) bad high).trans (if_pos few)), fun bad high many => ?_⟩
    · exact (if_neg (Nat.not_lt.2 high)).trans (if_neg (by rw [show h.rlu.bulkLow = false from good]; exact Bool.false_ne_true))
    · intro lowNow
      have goes : h.judgeBulk v = h.bulkGoesLow := (judgeBulk_of_low (s := h) good low).trans (if_neg (Nat.not_lt.2 many))
      have interrupts (reported : ¬(s.railsOff = true ∧ (s.rcu.state = .active ∨ s.rcu.state = .windDown))) :
          exec (.bulkReading v) s = .next (lowNow.interrupt .bulk) := judged (goes.trans (if_neg reported))
      refine ⟨Bool.or_true _, fun powered _ => interrupts (fun quiet => by rw [powered] at quiet; cases quiet.1),
        fun off runs => judged (goes.trans (if_pos ⟨off, runs⟩)), fun rest => ?_, fun listen => ?_⟩
      · refine (interrupts (fun quiet => ?_)).trans (congrArg Host.Outcome.next (interrupt_of_rest (s := lowNow) rest))
        rcases rest with e | e <;> rw [e] at quiet <;> simp at quiet
      · refine (interrupts (fun quiet => ?_)).trans (congrArg Host.Outcome.next
          (interrupt_of_silent (s := lowNow) (.inr (.inr (.inr (.inl listen))))))
        rw [listen] at quiet
        simp at quiet
    · have goes : h.judgeBulk v = h.bulkGoesGood := (judgeBulk_of_high (s := h) bad high).trans (if_neg (Nat.not_lt.2 many))
      refine ⟨_, judged goes, ?_⟩
      unfold State.bulkGoesGood
      dsimp only
      cases deferred : h.rlu.deferred with
      | false => exact ⟨rfl, rfl, rfl, rfl, fun e => Bool.noConfusion (deferred.symm.trans e), fun _ => rfl, rfl, rfl⟩
      | true =>
        refine ⟨rfl, rfl, rfl, rfl, fun _ => ?_, fun e => Bool.noConfusion (deferred.symm.trans e), rfl, rfl⟩
        rw [if_pos rfl]
        exact congrArg RailUnit.state (State.modRail_rails _ .a _)
  · have judged {t : State} (e : h.judgeBoard v = t) : exec (.boardCurrentReading v) s = .next t :=
      congrArg Host.Outcome.next ((handOver_ending _ due).trans e)
    have powered (on : s.railsOff = false) : ¬h.railsOff = true := by rw [show h.railsOff = false from on]; exact Bool.false_ne_true
    exact ⟨fun off => judged (if_pos off), fun on within => judged ((if_neg (powered on)).trans (if_pos within)),
      fun on above few => judged ((if_neg (powered on)).trans ((if_neg (Nat.not_le.2 above)).trans (if_pos few))),
      fun on above many =>
        judged ((if_neg (powered on)).trans ((if_neg (Nat.not_le.2 above)).trans (if_neg (Nat.not_lt.2 many))))⟩

end Sys2Proof
end

section
/-! SUPPORT. The power-down of a winddown: its steps 1 to 3, and ABORT, which starts it (R48, R49, R65, R68, R76, R90, R107). -/

namespace Sys2Proof.Machine

section
variable {s : State}

/-! ### Dropping a socket once all heating has ended -/

/-- A heater as it stands once all heating has ended (R107). -/
def Heater.ended (h : Heater) : Prop := endHeater h = h

theorem endHeater_ended (h : Heater) : (endHeater h).ended := rfl

theorem Heater.ended.fields {h : Heater} (ended : h.ended) :
    h.phase = .stopped ∧ h.onTime = 0 ∧ h.inForce = 0 ∧ h.tripStreak = 0 := by
  rw [← show endHeater h = h from ended]
  exact ⟨rfl, rfl, rfl, rfl⟩

/-- A heater that a change leaves as it is, left by the change of the state. -/
theorem modHeater_of_same {i : Socket} {f : Heater → Heater} (same : f s.thu.heaters[i] = s.thu.heaters[i]) :
    s.modHeater i f = s := by
  unfold State.modHeater
  rw [same, show s.thu.heaters.set i s.thu.heaters[i] = s.thu.heaters from Vector.set_getElem_self ..]

/-- Forcing off a heater that has ended changes nothing (R100). -/
theorem forceOff_of_ended {i : Socket} (ended : s.thu.heaters[i].ended) : s.forceOff i = s := by
  obtain ⟨phase, onTime, inForce, _⟩ := ended.fields
  have same : s.modHeater i (fun h => { h with onTime := 0, inForce := 0 }) = s := by
    refine modHeater_of_same ?_
    generalize s.thu.heaters[i] = h at *
    cases h
    cases onTime
    cases inForce
    rfl
  unfold State.forceOff State.endHeating
  rw [same, phase]

/-- What dropping a socket does once all heating has ended (R89, R90, R119, R138, R140). -/
theorem dropSocket_of_ended {i : Socket} (ended : s.thu.heaters[i].ended) :
    s.dropSocket i = { s with
      rlu := { s.rlu with sockets := s.rlu.sockets.set i (openPower s.rlu.sockets[i]) }
      ptu := { s.ptu with members := s.ptu.members.set i false }
      acu := { s.acu with socketGate := s.acu.socketGate.set i false, powered := s.acu.powered.set i false } } := by
  have forced : (s.modPower i openPower).forceOff i = s.modPower i openPower := forceOff_of_ended ended
  have untripped : (s.modPower i openPower).modHeater i noTrips = s.modPower i openPower := by
    refine modHeater_of_same ?_
    show noTrips s.thu.heaters[i] = s.thu.heaters[i]
    obtain ⟨_, _, _, tripStreak⟩ := ended.fields
    generalize s.thu.heaters[i] = h at *
    cases h
    cases tripStreak
    rfl
  unfold State.dropSocket
  dsimp only
  rw [forced, untripped]
  rfl

/-! ### Step 2 of the power-down -/

/-- The state with these sockets, records, members, gates, powered marks and own held. -/
def State.wound (s : State) (sockets : Vector SocketPower 16) (records : Vector SocketRecord 16)
    (members gate powered : Vector Bool 16) (held : Nat) : State :=
  { s with
    rlu := { s.rlu with sockets := sockets }
    ptu := { s.ptu with members := members }
    acu := { s.acu with records := records, socketGate := gate, powered := powered }
    bdu := { s.bdu with ownHeld := held } }

/-- The sockets of a list are off (R49, R65, R90): those that hold an allowance have lost it, their switches open. -/
def State.isWound (s : State) (l : List Socket) (sockets : Vector SocketPower 16) (records : Vector SocketRecord 16)
    (members : Vector Bool 16) (held : Nat) : Prop :=
  (∀ i : Socket, sockets[i] =
    if i ∈ l ∧ (s.socketState i).holds = true then SocketPower.initial else s.rlu.sockets[i]) ∧
  (∀ i : Socket, records[i] =
    if i ∈ l then { s.acu.records[i] with state := (s.socketState i).turnOff } else s.acu.records[i]) ∧
  (∀ i : Socket, members[i] = (s.ptu.members[i] && !(decide (i ∈ l) && (s.socketState i).holds))) ∧
  held = s.bdu.ownHeld - ((l.filter (fun i => (s.socketState i).holds)).map (fun i => s.rlu.sockets[i].allowance)).sum

/-- Step 2 for one socket (R49, R65, R90). -/
theorem windSocket_wound {i : Socket} (ended : s.thu.heaters[i].ended) : ∃ sockets records members gate powered held,
    s.windSocket i = s.wound sockets records members gate powered held ∧ s.isWound [i] sockets records members held := by
  have setFalse (v : Vector Bool 16) (j : Socket) : (v.set i false)[j] = (v[j] && !decide (j = i)) := by
    by_cases e : j = i
    · subst e; simp
    · have apart : (i : Nat) ≠ j := fun e' => e (Fin.ext e'.symm)
      simp [Vector.getElem_set_ne, apart, e]
  unfold State.windSocket
  cases holds : (s.socketState i).holds with
  | true =>
    rw [if_pos rfl, dropSocket_of_ended ended]
    refine ⟨s.rlu.sockets.set i SocketPower.initial,
      s.acu.records.set i { s.acu.records[i] with state := .off }, s.ptu.members.set i false, s.acu.socketGate.set i false,
      s.acu.powered.set i false, s.bdu.ownHeld - s.rlu.sockets[i].allowance, ?_, fun j => ?_, fun j => ?_, fun j => ?_, ?_⟩
    · unfold State.releaseAllowance State.modRecord State.modPower State.release
      simp [State.wound, openPower, SocketRecord.become, SocketPower.initial]
    · by_cases e : j = i
      · subst e; simp [holds]
      · have apart : (i : Nat) ≠ j := fun e' => e (Fin.ext e'.symm)
        simp [Vector.getElem_set_ne, apart, e]
    · by_cases e : j = i
      · subst e; simp [SocketState.turnOff, holds]
      · have apart : (i : Nat) ≠ j := fun e' => e (Fin.ext e'.symm)
        simp [Vector.getElem_set_ne, apart, e]
    · rw [setFalse]
      by_cases e : j = i
      · subst e; simp [holds]
      · simp [e]
    · simp [holds]
  | false =>
    rw [if_neg (by decide)]
    have same : (if s.socketState i = .parked then s.modRecord i (SocketRecord.become .off) else s) =
        s.modRecord i (SocketRecord.become (s.socketState i).turnOff) := by
      by_cases parked : s.socketState i = .parked
      · rw [if_pos parked, parked]; rfl
      · have stays : (s.socketState i).turnOff = s.socketState i := by
          unfold SocketState.turnOff
          rw [if_neg (fun h => h.elim (fun e => by rw [holds] at e; cases e) parked)]
        rw [if_neg parked, stays]
        unfold State.modRecord
        rw [show SocketRecord.become (s.socketState i) s.acu.records[i] = s.acu.records[i] from rfl,
          show s.acu.records.set i s.acu.records[i] = s.acu.records from Vector.set_getElem_self ..]
    rw [same]
    refine ⟨s.rlu.sockets, _, s.ptu.members, s.acu.socketGate, s.acu.powered, s.bdu.ownHeld, rfl, fun j => ?_, fun j => ?_,
      fun j => ?_, ?_⟩
    · rw [if_neg]
      rintro ⟨mem, on⟩
      rw [List.mem_singleton.1 mem, holds] at on
      cases on
    · by_cases e : j = i
      · subst e; simp [SocketRecord.become]
      · have apart : (i : Nat) ≠ j := fun e' => e (Fin.ext e'.symm)
        simp [Vector.getElem_set_ne, apart, e]
    · by_cases e : j = i
      · subst e; simp [holds]
      · simp [e]
    · simp [holds]

/-- Step 2 for a list of sockets (R49). -/
theorem windSockets_wound (l : List Socket) : ∀ s : State, l.Nodup → (∀ i ∈ l, s.thu.heaters[i].ended) →
    ∃ sockets records members gate powered held, l.foldl State.windSocket s = s.wound sockets records members gate powered held ∧
      s.isWound l sockets records members held := by
  induction l with
  | nil =>
    intro s _ _
    refine ⟨s.rlu.sockets, s.acu.records, s.ptu.members, s.acu.socketGate, s.acu.powered, s.bdu.ownHeld, rfl, fun i => ?_,
      fun i => ?_, fun i => ?_, ?_⟩ <;> simp
  | cons i rest ih =>
    intro s nodup ended
    obtain ⟨fresh, nodup'⟩ := List.nodup_cons.1 nodup
    obtain ⟨sockets, records, members, gate, powered, held, first, socketsOf, recordsOf, membersOf, heldOf⟩ :=
      windSocket_wound (ended i List.mem_cons_self)
    obtain ⟨sockets', records', members', gate', powered', held', others, socketsOf', recordsOf', membersOf', heldOf'⟩ :=
      ih (s.wound sockets records members gate powered held) nodup' (fun j mem => ended j (List.mem_cons_of_mem _ mem))
    have stateOf (j : Socket) (mem : j ∈ rest) :
        (s.wound sockets records members gate powered held).socketState j = s.socketState j := by
      have apart : j ∉ [i] := fun e => fresh (List.mem_singleton.1 e ▸ mem)
      show records[j].state = _
      rw [recordsOf j, if_neg apart]
      rfl
    refine ⟨sockets', records', members', gate', powered', held', ?_, fun j => ?_, fun j => ?_, fun j => ?_, ?_⟩
    · rw [List.foldl_cons, first, others]
      rfl
    · rw [socketsOf' j]
      by_cases mem : j ∈ rest
      · have apart : j ≠ i := fun e => fresh (e ▸ mem)
        rw [stateOf j mem]
        show (if _ then _ else sockets[j]) = _
        rw [socketsOf j]
        simp [mem, apart]
      · show (if _ then _ else sockets[j]) = _
        rw [socketsOf j]
        simp [mem]
    · rw [recordsOf' j]
      by_cases mem : j ∈ rest
      · have apart : j ≠ i := fun e => fresh (e ▸ mem)
        rw [stateOf j mem]
        show (if _ then ({ records[j] with state := _ } : SocketRecord) else records[j]) = _
        rw [recordsOf j]
        simp [mem, apart]
      · show (if _ then ({ records[j] with state := _ } : SocketRecord) else records[j]) = _
        rw [recordsOf j]
        simp [mem]
    · rw [membersOf' j]
      by_cases mem : j ∈ rest
      · have apart : j ≠ i := fun e => fresh (e ▸ mem)
        rw [stateOf j mem]
        show (members[j] && _) = _
        rw [membersOf j]
        simp [mem, apart]
      · show (members[j] && _) = _
        rw [membersOf j]
        simp [mem]
    · have sums : (rest.filter (fun j => ((s.wound sockets records members gate powered held).socketState j).holds)).map
            (fun j => (s.wound sockets records members gate powered held).rlu.sockets[j].allowance) =
          (rest.filter (fun j => (s.socketState j).holds)).map (fun j => s.rlu.sockets[j].allowance) := by
        rw [List.filter_congr (fun j mem => by rw [stateOf j mem])]
        refine List.map_congr_left (fun j mem => ?_)
        have apart : j ∉ [i] := fun e => fresh (List.mem_singleton.1 e ▸ List.mem_of_mem_filter mem)
        show sockets[j].allowance = _
        rw [socketsOf j, if_neg (fun h => apart h.1)]
      rw [heldOf', sums]
      show held - _ = _
      rw [heldOf, Nat.sub_sub]
      cases holds : (s.socketState i).holds <;> simp [holds]

/-! ### The whole power-down -/

/-- The end of all heating, field by field (R107). -/
theorem stopHeating_frame (s : State) : ∃ heaters : Vector Heater 16,
    s.stopHeating = { s with thu := { s.thu with
      heaters := heaters, waitQueue := [], anchor := none, tokens := 0, releasePending := false } } ∧
    ∀ i : Socket, heaters[i] = endHeater s.thu.heaters[i] := by
  obtain ⟨heaters, heated, cold⟩ := mapHeaters_frame s (fun _ h => endHeater h)
  refine ⟨heaters, ?_, cold⟩
  unfold State.stopHeating
  rw [heated]

/-- Taking rails down changes the rails, and at the end of it what the last steps change (R49, R76). -/
theorem takeFalling_frame (windDown : s.rcu.state = .windDown) (powering : s.rcu.poweringDown = true) (l : List Rail) :
    ∃ rails rcu held, s.takeFalling l = { s with
      rcu := rcu, rlu := { s.rlu with rails := rails }, bdu := { s.bdu with ownHeld := held } } ∧
      (rcu = s.rcu ∨ rcu = s.rcu.ended s.rcu.endCause) := by
  induction l with
  | nil => exact ⟨s.rlu.rails, s.rcu.ended s.rcu.endCause, 0, finishWinddown_of windDown powering, .inr rfl⟩
  | cons r rest ih =>
    by_cases off : s.railState r = .off
    · rw [takeFalling_of_off r rest off]
      exact ih
    · rw [takeFalling_of_ne r rest off]
      exact ⟨_, s.rcu, s.bdu.ownHeld, rfl, .inl rfl⟩

/-- With every rail OFF the power-down is over (R49, R76). -/
theorem takeFalling_of_railsOff (off : ∀ r : Rail, s.railState r = .off) (l : List Rail) : s.takeFalling l = s.finishWinddown := by
  induction l with
  | nil => rfl
  | cons r rest ih => rw [takeFalling_of_off r rest (off r), ih]

/-- The rails are taken in the order C, B, A: the first of them that is not OFF starts to fall (R76). -/
theorem takeFalling_first (r : Rail) (runs : s.railState r ≠ .off) (after : ∀ q : Rail, r.ix < q.ix → s.railState q = .off) :
    ∃ rest, s.takeFalling [.c, .b, .a] = s.takeFalling (r :: rest) := by
  cases r with
  | c => exact ⟨_, rfl⟩
  | b => exact ⟨_, takeFalling_of_off .c _ (after .c (by decide))⟩
  | a => exact ⟨_, (takeFalling_of_off .c _ (after .c (by decide))).trans (takeFalling_of_off .b _ (after .b (by decide)))⟩

/-- Some rail that is not OFF is the first to fall. -/
theorem exists_first_rail (on : s.railsOff = false) :
    ∃ r : Rail, s.railState r ≠ .off ∧ ∀ q : Rail, r.ix < q.ix → s.railState q = .off := by
  have some_on : ¬∀ r : Rail, s.railState r = .off := fun off => by rw [railsOff_iff.2 off] at on; cases on
  by_cases c : s.railState .c = .off
  · by_cases b : s.railState .b = .off
    · refine ⟨.a, fun a => some_on (fun r => by cases r <;> assumption), fun q h => ?_⟩
      cases q with
      | a => exact absurd h (by decide)
      | b => exact b
      | c => exact c
    · refine ⟨.b, b, fun q h => ?_⟩
      cases q with
      | a => exact absurd h (by decide)
      | b => exact absurd h (by decide)
      | c => exact c
  · refine ⟨.c, c, fun q h => ?_⟩
    cases q <;> exact absurd h (by decide)

/-- The own held once the tokens and the allowances of the holding sockets are released (R49, R65, R68). -/
def State.heldAfterStep2 (s : State) : Nat :=
  s.bdu.ownHeld - s.thu.tokens * s.prof.nominal -
    ((allSockets.filter (fun i => (s.socketState i).holds)).map (fun i => s.rlu.sockets[i].allowance)).sum

/-- The state as the rails are taken: steps 1 and 2 of the power-down are done (R49). -/
def State.steppedDown (s : State) (heaters : Vector Heater 16) (sockets : Vector SocketPower 16)
    (records : Vector SocketRecord 16) (members gate powered : Vector Bool 16) : State :=
  { s with
    rcu := { s.rcu with poweringDown := true }
    rlu := { s.rlu with sockets := sockets, deferred := false }
    thu := { s.thu with heaters := heaters, waitQueue := [], anchor := none, tokens := 0, releasePending := false }
    ptu := { s.ptu with members := members }
    acu := { s.acu with records := records, socketGate := gate, powered := powered }
    bdu := { s.bdu with ownHeld := s.heldAfterStep2 } }

/-- Heaters ended, sockets off, and members that hold an allowance no longer members (R49, R107, R119). -/
def State.isSteppedDown (s : State) (heaters : Vector Heater 16) (sockets : Vector SocketPower 16)
    (records : Vector SocketRecord 16) (members : Vector Bool 16) : Prop :=
  (∀ i : Socket, heaters[i] = endHeater s.thu.heaters[i]) ∧
  (∀ i : Socket, sockets[i] = if (s.socketState i).holds = true then SocketPower.initial else s.rlu.sockets[i]) ∧
  (∀ i : Socket, records[i] = { s.acu.records[i] with state := (s.socketState i).turnOff }) ∧
  ∀ i : Socket, members[i] = (s.ptu.members[i] && !(s.socketState i).holds)

/-- Steps 1 and 2 of the power-down, with its rails still to be taken (R49). -/
theorem powerDown_frame (s : State) : ∃ heaters sockets records members gate powered,
    s.powerDown = (s.steppedDown heaters sockets records members gate powered).takeFalling [.c, .b, .a] ∧
      s.isSteppedDown heaters sockets records members := by
  have step1 : ∃ heaters : Vector Heater 16,
      State.windStep1 { s with rcu := { s.rcu with poweringDown := true } } = { s with
        rcu := { s.rcu with poweringDown := true }
        thu := { s.thu with heaters := heaters, waitQueue := [], anchor := none, tokens := 0, releasePending := false }
        bdu := { s.bdu with ownHeld := s.bdu.ownHeld - s.thu.tokens * s.prof.nominal } } ∧
      ∀ i : Socket, heaters[i] = endHeater s.thu.heaters[i] := by
    unfold State.windStep1
    obtain ⟨heaters, heated, cold⟩ := stopHeating_frame
      (State.release { s with rcu := { s.rcu with poweringDown := true } } (s.thu.tokens * s.prof.nominal))
    exact ⟨heaters, heated, cold⟩
  obtain ⟨heaters, stepped, cold⟩ := step1
  unfold State.powerDown
  dsimp only
  rw [stepped]
  generalize hu : ({ s with
    rcu := { s.rcu with poweringDown := true }
    thu := { s.thu with heaters := heaters, waitQueue := [], anchor := none, tokens := 0, releasePending := false }
    bdu := { s.bdu with ownHeld := s.bdu.ownHeld - s.thu.tokens * s.prof.nominal } } : State) = u
  have heatersOf (i : Socket) : u.thu.heaters[i] = endHeater s.thu.heaters[i] := by rw [← hu]; exact cold i
  obtain ⟨sockets, records, members, gate, powered, held, wound, socketsOf, recordsOf, membersOf, heldOf⟩ :=
    windSockets_wound allSockets u (List.nodup_finRange 16) (fun i _ => by rw [heatersOf]; exact endHeater_ended _)
  have mem (i : Socket) : i ∈ allSockets := List.mem_finRange i
  have stateOf (i : Socket) : u.socketState i = s.socketState i := by rw [← hu]; rfl
  have heldNow : held = s.heldAfterStep2 := by rw [heldOf, ← hu]; rfl
  refine ⟨heaters, sockets, records, members, gate, powered, ?_, cold, fun i => ?_, fun i => ?_, fun i => ?_⟩
  · rw [wound, heldNow, ← hu]
    rfl
  · rw [socketsOf i, stateOf i]
    simp only [mem, true_and]
    rw [← hu]
  · rw [recordsOf i, if_pos (mem i), stateOf i, ← hu]
  · rw [membersOf i, stateOf i]
    simp only [mem, decide_true, Bool.true_and]
    rw [← hu]

/-- The power-down of a WINDDOWN: what it leaves, what becomes of the sockets, and the start of R76's order (R49, R65, R68). -/
theorem powerDown_spec (windDown : s.rcu.state = .windDown) :
    let t := s.powerDown
    s.windsDown t ∧ (t.rcu = { s.rcu with poweringDown := true } ∨ t.rcu = s.rcu.ended s.rcu.endCause) ∧
    t.biu = s.biu ∧ t.ldr = s.ldr ∧ t.bdu.queue = s.bdu.queue ∧
    (∃ members, t.ptu = { s.ptu with members := members } ∧
      ∀ i : Socket, members[i] = (s.ptu.members[i] && !(s.socketState i).holds)) ∧
    (∃ records gate powered, t.acu = { s.acu with records := records, socketGate := gate, powered := powered } ∧
      ∀ i : Socket, records[i] = { s.acu.records[i] with state := (s.socketState i).turnOff }) ∧
    (∀ i : Socket, t.thu.heaters[i] = endHeater s.thu.heaters[i] ∧
      t.rlu.sockets[i] = if (s.socketState i).holds = true then SocketPower.initial else s.rlu.sockets[i]) := by
  intro t
  obtain ⟨heaters, sockets, records, members, gate, powered, down, cold, socketsOf, recordsOf, membersOf⟩ := powerDown_frame s
  generalize hw : s.steppedDown heaters sockets records members gate powered = w at down
  have state : w.rcu.state = .windDown := by rw [← hw]; exact windDown
  have powering : w.rcu.poweringDown = true := by rw [← hw]; rfl
  have railsOf (r : Rail) : w.rlu.rails[r.ix] = s.rlu.rails[r.ix] := by rw [← hw]; rfl
  have railStateOf (r : Rail) : w.railState r = s.railState r := congrArg RailUnit.state (railsOf r)
  obtain ⟨rails, rcu, held, moved, runControl⟩ := takeFalling_frame state powering [.c, .b, .a]
  have eq : t = { w with rcu := rcu, rlu := { w.rlu with rails := rails }, bdu := { w.bdu with ownHeld := held } } := down.trans moved
  have line (i : Socket) : t.thu.heaters[i] = endHeater s.thu.heaters[i] ∧
      t.rlu.sockets[i] = if (s.socketState i).holds = true then SocketPower.initial else s.rlu.sockets[i] := by
    rw [eq, ← hw]
    exact ⟨cold i, socketsOf i⟩
  refine ⟨⟨?_, ?_, fun i => ⟨?_, fun holds => ?_⟩, fun off => ?_, fun on => ?_, fun r runs after => ?_⟩, ?_, ?_, ?_, ?_, ?_, ?_, line⟩
  · rw [eq, ← hw]; rfl
  · rw [eq, ← hw]; rfl
  · show (t.thu.heaters[i].phase == .on) = false
    rw [(line i).1]
    rfl
  · show t.rlu.sockets[i].closed = false
    rw [(line i).2, if_pos holds]
    rfl
  · have allOff : ∀ r : Rail, w.railState r = .off := fun r => (railStateOf r).trans (railsOff_iff.1 off r)
    have ended : t = w.releaseAll.enterDone w.rcu.endCause :=
      down.trans ((takeFalling_of_railsOff allOff _).trans (finishWinddown_of state powering))
    rw [ended]
    exact ⟨rfl, rfl⟩
  · obtain ⟨r, runs, after⟩ := exists_first_rail on
    obtain ⟨rest, first⟩ := takeFalling_first (s := w) r (by rw [railStateOf]; exact runs)
      (fun q h => (railStateOf q).trans (after q h))
    obtain ⟨_, _, _, _, _, rcuOf, bduOf⟩ := takeFalling_falls (s := w) r rest (by rw [railStateOf]; exact runs)
    have same : t = w.takeFalling (r :: rest) := down.trans first
    rw [same, rcuOf, bduOf]
    refine ⟨state, powering, ?_⟩
    rw [← hw]
    rfl
  · obtain ⟨rest, first⟩ := takeFalling_first (s := w) r (by rw [railStateOf]; exact runs)
      (fun q h => (railStateOf q).trans (after q h))
    obtain ⟨falling, enable, level, timer, others, _, _⟩ :=
      takeFalling_falls (s := w) r rest (by rw [railStateOf]; exact runs)
    have same : t = w.takeFalling (r :: rest) := down.trans first
    rw [same]
    refine ⟨falling, enable, level.trans (by rw [railsOf]), timer.trans (by rw [← hw]; rfl), fun q other => ?_⟩
    rw [others q other, railsOf]
  · rw [eq]
    rcases runControl with e | e <;> rw [e, ← hw]
    · exact .inl rfl
    · exact .inr rfl
  · rw [eq, ← hw]; rfl
  · rw [eq, ← hw]; rfl
  · rw [eq, ← hw]; rfl
  · refine ⟨members, ?_, membersOf⟩
    rw [eq, ← hw]
    rfl
  · refine ⟨records, gate, powered, ?_, recordsOf⟩
    rw [eq, ← hw]
    rfl

end

end Sys2Proof.Machine

namespace Sys2Proof

open Machine

/-- Settles O31: ABORT abandons the pass, enters WINDDOWN and starts the power-down at once. -/
theorem abortWindsTheRunDown : Obligations.AbortWindsTheRunDown := by
  intro s active
  have inActive : s.isActive = true := beq_iff_eq.2 active
  have taken : s.takeAbort = s.abortRun.report 6 .accepted := by
    unfold State.takeAbort
    rw [judged_of_good (transmits_of_active active) inActive rfl]
  refine ⟨_, congrArg Host.Outcome.next taken, ?_⟩
  unfold State.abortRun
  rw [abandon_frame]
  have engine := abandon_engine (s := s)
  generalize s.abandon.ptu = ptu at engine
  generalize s.abandon.acu.stationGate = gate
  obtain ⟨down, rcu, biu, ldr, queue, ⟨members, ptuOf, membersOf⟩, ⟨records, gates, powered, acuOf, recordsOf⟩, lines⟩ :=
    powerDown_spec (s := State.enterWinddown
      { s with ptu := ptu, acu := { s.acu with stationGate := gate } } .aborted) rfl
  have wound : s.windsDown (State.enterWinddown
      { s with ptu := ptu, acu := { s.acu with stationGate := gate } } .aborted).powerDown := down
  generalize (State.enterWinddown { s with ptu := ptu, acu := { s.acu with stationGate := gate } } .aborted).powerDown = t at *
  have run : t.rcu.endCause = some .aborted ∧ t.rcu.sub = none ∧ t.rcu.remembered = none ∧ t.rcu.transit = none ∧
      t.rcu.advance = none ∧ t.rcu.phase = s.rcu.phase ∧ t.rcu.intCount = s.rcu.intCount := by
    rcases rcu with e | e <;> rw [e] <;> exact ⟨rfl, rfl, rfl, rfl, rfl, rfl, rfl⟩
  obtain ⟨cause, sub, remembered, transit, advance, phase, count⟩ := run
  have recordOf (i : Socket) : t.acu.records[i] = { s.acu.records[i] with state := (s.socketState i).turnOff } := by
    rw [acuOf]
    exact recordsOf i
  refine ⟨cause, sub, remembered, transit, advance, ?_, queue, wound.1, rfl, rfl, ?_, ?_, phase, count, biu,
    fun i => ⟨?_, ?_, fun holds => ?_, ?_, ?_⟩, wound⟩
  · show t.ptu.engine = _
    rw [ptuOf]
    exact engine
  · show t.acu.stationGate = _
    rw [acuOf]
    rfl
  · show t.acu.history = _
    rw [acuOf]
    rfl
  · show t.thu.heaters[i].phase = _
    rw [(lines i).1]
    rfl
  · show t.acu.records[i].state = _
    rw [recordOf i]
    rfl
  · exact (wound.2.2.1 i).2 holds
  · show t.acu.records[i].credit = _
    rw [recordOf i]
  · show t.acu.records[i].exposure = _
    rw [recordOf i]

end Sys2Proof
end

section
/-! SUPPORT. The budget at a mark: the order of the visit, who may be granted, and what an applied grant hands on (R52, R53,
R57 to R63, R71, R83, R103, R106). -/

namespace Sys2Proof.Machine

section
variable {s : State}

/-! ### The table -/

/-- The own slot counts what the station holds, and asks what it sent whole (R52, R61). -/
theorem counted_of_own {k : Station} (own : s.isOwn k = true) :
    s.countedHeld k = s.bdu.ownHeld ∧ s.candidate k = if s.biu.tx = .sentWhole then s.bdu.sentAsked else 0 :=
  ⟨if_pos own, if_pos own⟩

/-- A peer's slot, by its presence and its rack code (R52, R61). -/
theorem counted_of_peer {k : Station} (other : s.isOwn k = false) :
    let e := s.biu.peers[k]
    (e.presence = .live → e.rackDiffers = false → s.countedHeld k = e.report.held ∧ s.candidate k = e.report.asked) ∧
    (e.presence = .live → e.rackDiffers = true → s.countedHeld k = e.report.held + e.report.asked ∧ s.candidate k = 0) ∧
    (e.presence = .silent ∨ e.presence = .lost →
      s.countedHeld k = e.report.held + e.report.asked ∧ s.candidate k = 0) ∧
    (e.presence = .absent → s.countedHeld k = 0 ∧ s.candidate k = 0) := by
  unfold State.countedHeld State.candidate
  simp only [other, Bool.false_eq_true, if_false]
  cases presence : s.biu.peers[k].presence <;> simp +contextual

/-! ### The visit -/

/-- The visit goes over every station slot once (R61). -/
theorem visitOrder_length (round : Word) : (visitOrder round).length = 30 := by
  unfold visitOrder allStations
  rw [List.length_append, List.length_drop, List.length_take, List.length_finRange]
  omega

/-- The `n`-th station of the visit, in the order of R61. -/
theorem visitOrder_getElem (round : Word) (n : Nat) (k : Station) (h : (visitOrder round)[n]? = some k) :
    k.val = (visitStart round + n) % 30 := by
  have start : visitStart round ≤ 30 := by
    unfold visitStart
    omega
  have short : n < 30 := by
    rw [← visitOrder_length round]
    exact (List.getElem?_eq_some_iff.1 h).1
  have at_place {j : Nat} (e : allStations[j]? = some k) : k.val = j := by
    obtain ⟨bound, at_j⟩ := List.getElem?_eq_some_iff.1 e
    rw [← at_j]
    simp [allStations]
  unfold visitOrder at h
  have dropped : (allStations.drop (visitStart round)).length = 30 - visitStart round := by simp [allStations]
  by_cases early : n < 30 - visitStart round
  · rw [List.getElem?_append_left (by rw [dropped]; exact early), List.getElem?_drop] at h
    rw [at_place h, Nat.mod_eq_of_lt (by omega)]
  · rw [List.getElem?_append_right (by rw [dropped]; omega), dropped, List.getElem?_take_of_lt (by omega)] at h
    have split : visitStart round + n = (n - (30 - visitStart round)) + 30 := by omega
    rw [at_place h, split, Nat.add_mod_right, Nat.mod_eq_of_lt (by omega)]

/-- Nobody is granted while the table sum stands above the budget (R61). -/
theorem granted_of_above (round : Word) (above : s.prof.budget < s.tableSum) : s.granted round = [] := if_pos above

/-- With the table sum within the budget the visit grants (R61). -/
theorem granted_of_within (round : Word) (within : s.tableSum ≤ s.prof.budget) :
    s.granted round = visit s.candidate (visitOrder round) (s.prof.budget - s.tableSum) := if_neg (Nat.not_lt.2 within)

/-- Whoever is granted, the table sum was within the budget (R61). -/
theorem within_of_granted {round : Word} (some_granted : s.granted round ≠ []) : s.tableSum ≤ s.prof.budget :=
  Nat.le_of_not_lt (fun above => some_granted (granted_of_above round above))

/-- What the grants of a mark are (R61). -/
theorem granted_spec (s : State) (round : Word) :
    (∀ k ∈ s.granted round, 0 < s.candidate k) ∧ (s.granted round).Nodup ∧
    (s.granted round ≠ [] → s.tableSum + ((s.granted round).map s.candidate).sum ≤ s.prof.budget) := by
  by_cases within : s.tableSum ≤ s.prof.budget
  · rw [granted_of_within round within]
    refine ⟨visit_asks _ _ _, (visit_sublist _ _ _).nodup (visitOrder_nodup round), fun _ => ?_⟩
    have fits := visit_fits s.candidate (visitOrder round) (s.prof.budget - s.tableSum)
    omega
  · rw [granted_of_above round (Nat.lt_of_not_le within)]
    exact ⟨fun k mem => absurd mem List.not_mem_nil, List.nodup_nil, fun no => absurd rfl no⟩

/-! ### The own grant -/

/-- A prediction changes the peer table alone (R53, R62). -/
theorem predict_isOwn (granted : List Station) : (s.predict granted).isOwn = s.isOwn := by
  have frame := predict_frame s granted
  generalize (s.predict granted).biu.peers = peers at frame
  rw [frame]
  rfl

/-- A prediction changes no peer's presence and no rack code (R53, R62). -/
theorem predict_rackConflict (granted : List Station) : (s.predict granted).rackConflict = s.rackConflict := by
  have same (k : Station) : (s.predict granted).biu.peers[k].presence = s.biu.peers[k].presence ∧
      (s.predict granted).biu.peers[k].rackDiffers = s.biu.peers[k].rackDiffers := by
    rw [predict_peers]
    split <;> exact ⟨rfl, rfl⟩
  rw [Bool.eq_iff_iff, rackConflict_iff, rackConflict_iff]
  simp only [same, predict_isOwn]

/-- The own grant is applied exactly when the own slot is granted and the mark is trusted (R63). -/
theorem budgetMark_eq (f : MarkFacts) : s.budgetMark f =
    if (∃ k ∈ s.granted f.round, s.isOwn k = true) ∧ f.missedPeer = false ∧ f.disagreeing = false ∧ s.rackConflict = false then
      (s.predict (s.granted f.round)).applyGrant
    else s.predict (s.granted f.round) := by
  have own : (s.granted f.round).any (s.predict (s.granted f.round)).isOwn = true ↔
      ∃ k ∈ s.granted f.round, s.isOwn k = true := by rw [predict_isOwn, List.any_eq_true]
  have trusted : (s.predict (s.granted f.round)).mayApply f = true ↔
      f.missedPeer = false ∧ f.disagreeing = false ∧ s.rackConflict = false := by
    unfold State.mayApply
    rw [predict_rackConflict]
    simp only [Bool.and_eq_true, Bool.not_eq_true']
    exact ⟨fun ⟨⟨m, r⟩, d⟩ => ⟨m, d, r⟩, fun ⟨m, d, r⟩ => ⟨⟨m, r⟩, d⟩⟩
  unfold State.budgetMark
  dsimp only
  simp only [Bool.and_eq_true, own, trusted]

/-! ### An applied grant -/

/-- The state once a need at the head of the queue has been paid for (R59). -/
def State.paid (s : State) (n : Need) (rest : List Need) : State :=
  { s with bdu := { s.bdu with ownHeld := s.bdu.ownHeld + s.amount n, queue := rest } }

/-- A need asked for, at the head and within the asked value, is paid for and handed on (R59). -/
theorem applyGrant_of_head {n : Need} {rest : List Need} (sent : s.bdu.sentNeed = some n) (queue : s.bdu.queue = n :: rest)
    (within : s.amount n ≤ s.bdu.sentAsked) : s.applyGrant = (s.paid n rest).handOn n := by
  have value : s.bdu.ownHeld + s.bdu.sentAsked - (s.bdu.sentAsked - s.amount n) = s.bdu.ownHeld + s.amount n := by omega
  unfold State.applyGrant State.paid
  rw [sent]
  dsimp only
  rw [if_pos ⟨by rw [queue]; rfl, within⟩, value, queue]
  rfl

/-- A need no longer at the head, or above the asked value, stays (R59). -/
theorem applyGrant_of_not {n : Need} (sent : s.bdu.sentNeed = some n)
    (h : ¬(s.bdu.queue.head? = some n ∧ s.amount n ≤ s.bdu.sentAsked)) : s.applyGrant = s := by
  unfold State.applyGrant
  rw [sent]
  exact if_neg h

/-- A token granted goes to the head of the wait queue, or stays free (R103, R104, R106). -/
theorem serveHead_of_nil (empty : s.thu.waitQueue = []) : s.serveHead = s := by
  unfold State.serveHead
  rw [empty]

theorem serveHead_of_cons {j : Socket} {waits : List Socket} (queue : s.thu.waitQueue = j :: waits) :
    s.serveHead = State.modHeater { s with thu := { s.thu with waitQueue := waits } } j turnOn := by
  unfold State.serveHead
  rw [queue]

end

end Sys2Proof.Machine

namespace Sys2Proof

open Machine

/-- Settles O50: the table, the visit, the predictions, and the trust in the own grant. -/
theorem grantsFitTheBudgetAndTheTrust : Obligations.GrantsFitTheBudgetAndTheTrust := by
  refine ⟨fun s k => ⟨counted_of_own, counted_of_peer⟩, fun s round => ?_, fun s f => ?_⟩
  · obtain ⟨asks, nodup, fits⟩ := granted_spec s round
    refine ⟨granted_of_above round, asks, nodup, fits, visitOrder_length round, fun n k at_n => ?_, fun within before after k order => ?_⟩
    · have place := visitOrder_getElem round n k at_n
      unfold stationSlot
      unfold visitStart at place
      omega
    · have visited := visitOrder_nodup round
      rw [granted_of_within round within]
      rw [order] at visited ⊢
      refine (mem_visit_iff s.candidate before after k _ visited).trans (and_congr_right fun _ => ?_)
      omega
  · intro own trusted
    have mark := budgetMark_eq (s := s) f
    have peers : (s.budgetMark f).biu = (s.predict (s.granted f.round)).biu := (leaves_budgetMark s f).biu
    refine ⟨fun k => ?_, fun granted trust => ?_, fun refused => ?_⟩
    · rw [peers, predict_peers]
    · obtain ⟨missed, agree, rack⟩ := trust
      rw [mark, if_pos ⟨granted, missed, agree, rack⟩]
    · have not_both : ¬((∃ k ∈ s.granted f.round, s.isOwn k = true) ∧ f.missedPeer = false ∧ f.disagreeing = false ∧
          s.rackConflict = false) := fun ⟨granted, missed, agree, rack⟩ =>
        refused.elim (fun no => no granted) (fun no => no ⟨missed, agree, rack⟩)
      have frame := predict_frame s (s.granted f.round)
      generalize (s.predict (s.granted f.round)).biu.peers = after at frame
      rw [mark, if_neg not_both, frame]
      exact ⟨rfl, rfl, rfl⟩

/-- Settles O51: each kind of need, once paid for, goes to its block. -/
theorem grantedNeedIsHandedOn : Obligations.GrantedNeedIsHandedOn := by
  refine fun s n sent => ⟨fun away => applyGrant_of_not sent (fun h => away h.1),
    fun above => applyGrant_of_not sent (fun h => absurd h.2 (Nat.not_le.2 above)), fun rest queue within => ?_⟩
  intro paid t
  have handed : t = paid.handOn n := applyGrant_of_head sent queue within
  refine ⟨fun kind => ⟨fun low => ?_, fun good => ?_⟩, fun kind => ⟨fun empty => ?_, fun j waits waiting => ?_⟩,
    fun tr kind transit => ?_, fun i kind unpowered => ⟨?_, ?_⟩⟩
  · rw [handed, kind]
    exact if_pos low
  · rw [handed, kind]
    exact if_neg (by rw [show paid.rlu.bulkLow = false from good]; exact Bool.false_ne_true)
  · rw [handed, kind]
    exact serveHead_of_nil (s := { paid with thu := { s.thu with tokens := s.thu.tokens + 1 } }) empty
  · rw [handed, kind]
    exact serveHead_of_cons (s := { paid with thu := { s.thu with tokens := s.thu.tokens + 1 } }) waiting
  · rw [handed, kind]
    unfold State.handOn
    rw [show paid.rcu.transit = some tr from transit]
  · rw [kind]
    rfl
  · rw [handed, kind]
    exact if_pos unpowered

end Sys2Proof
end

section
/-! SUPPORT. The pattern engine at its starts and stops (R32, R39, R111 to R127). -/

namespace Sys2Proof.Machine

section
variable {s : State}

/-! ### A pass begins -/

/-- A SETTLED socket rejoins (R120, R121). -/
def SocketState.rejoin (st : SocketState) : SocketState := if st = .settled then .running else st

/-- A rejoined socket is not SETTLED. -/
theorem SocketState.rejoin_ne_settled (st : SocketState) : st.rejoin ≠ .settled := by cases st <;> decide

/-- Every SETTLED socket rejoins (R120, R121). -/
theorem rejoin_frame (s : State) : ∃ records : Vector SocketRecord 16,
    s.rejoin = { s with acu := { s.acu with records := records } } ∧
      ∀ i : Socket, records[i] = { s.acu.records[i] with state := (s.socketState i).rejoin } := by
  obtain ⟨records, rejoined, each⟩ := mapRecords_frame s (fun _ r => if r.state = .settled then { r with state := .running } else r)
  refine ⟨records, rejoined, fun i => (each i).trans ?_⟩
  unfold State.socketState SocketState.rejoin
  split <;> rfl

/-- The player at the beginning of a pass (R115, R117 to R119). -/
def Ptu.begun (p : Ptu) (prof : Profile) (members : Vector Bool 16) : Ptu :=
  { p with
    inverted := invertedAt p.sequence p.passIndex
    sigs := Vector.replicate 16 0xFFFF
    members := members
    vector := (p.loop.map Loop.first).getD 0
    clocksLeft := ((prof.vectors[(p.loop.map Loop.first).getD 0]?).map PatternVector.clocks).getD 0
    drainLeft := (p.loop.map Loop.latency).getD 0 }

/-- What the beginning of a pass leaves and what it writes (R115, R117 to R121). -/
theorem beginPass_frame (s : State) : ∃ (records : Vector SocketRecord 16) (members : Vector Bool 16),
    s.beginPass = { s with acu := { s.acu with records := records }, ptu := s.ptu.begun s.prof members } ∧
      (∀ i : Socket, records[i] = { s.acu.records[i] with state := (s.socketState i).rejoin }) ∧
      ∀ i : Socket, members[i] = ((s.socketState i).rejoin == .running) := by
  obtain ⟨records, rejoined, each⟩ := rejoin_frame s
  have formed : ∃ members : Vector Bool 16, members = Vector.ofFn (fun i : Socket => records[i].state == .running) := ⟨_, rfl⟩
  obtain ⟨members, formed⟩ := formed
  refine ⟨records, members, ?_, each, fun i => ?_⟩
  · unfold State.beginPass
    rw [rejoined]
    dsimp only
    rw [← formed]
    rfl
  · rw [formed]
    have at_i : (Vector.ofFn (fun i : Socket => records[i].state == .running))[i] = (records[i].state == .running) := by simp
    rw [at_i, each i]

/-- The first pass of a start is TRUE (R115). -/
theorem invertedAt_zero (sequence : PolaritySequence) : invertedAt sequence 0 = false := by cases sequence <;> rfl

/-! ### Start requests -/

/-- A start request of a STOPPING engine lets it play on (R126). -/
theorem requestStart_of_stopping (n : Nat) (stopping : s.ptu.engine = .stopping) :
    s.requestStart n = { s with ptu := { s.ptu with engine := .playing, finishPending := false } } := if_pos stopping

/-- A start request of any other engine starts the phase's pattern afresh (R113, R126). -/
theorem requestStart_of_other (n : Nat) (other : s.ptu.engine ≠ .stopping) :
    s.requestStart n = s.abandon.startPattern n := if_neg other

/-- The player as a loop is started (R112, R113, R116). -/
def Ptu.started (p : Ptu) (e : PlanEntry) (loop : Option Loop) (slot n : Nat) : Ptu :=
  { p with
    engine := .playing, loop := loop, clockWord := e.clockWord, sequence := e.sequence, dclk := false
    acc := BitVec.ofNat 24 (slot * 2 ^ 19), passIndex := 0, reentryLeft := n, strobe := false
    align := List.replicate ((loop.map Loop.latency).getD 0) false, finishPending := false }

theorem startPattern_of_static {e : PlanEntry} (n : Nat) (entry : s.rcu.entry s.rcu.phase = some e)
    (static : e.pattern = .static) :
    s.startPattern n = State.rejoin { s with ptu := { s.ptu with engine := .static, dclk := false, drv := e.staticDrive } } := by
  unfold State.startPattern
  rw [entry]
  dsimp only
  rw [static]

theorem startPattern_of_loop {e : PlanEntry} {k : Nat} (n : Nat) (entry : s.rcu.entry s.rcu.phase = some e)
    (loop : e.pattern = .loop k) :
    s.startPattern n = State.beginPass { s with ptu := s.ptu.started e s.prof.loops[k]? s.slot.val n } := by
  unfold State.startPattern
  rw [entry]
  dsimp only
  rw [loop]
  rfl

/-- A phase without an entry starts nothing. -/
theorem startPattern_of_none (n : Nat) (entry : s.rcu.entry s.rcu.phase = none) : s.startPattern n = s := by
  unfold State.startPattern
  rw [entry]

/-- A pattern start moves the player, and of the records the SETTLED sockets alone (R120, R121). -/
theorem startPattern_frame (n : Nat) : ∃ (records : Vector SocketRecord 16) (ptu : Ptu),
    s.startPattern n = { s with acu := { s.acu with records := records }, ptu := ptu } ∧
      ∀ i : Socket, records[i] = { s.acu.records[i] with
        state := if (s.rcu.entry s.rcu.phase).isSome then (s.socketState i).rejoin else s.socketState i } := by
  cases entry : s.rcu.entry s.rcu.phase with
  | none => exact ⟨s.acu.records, s.ptu, startPattern_of_none n entry, fun i => rfl⟩
  | some e =>
    cases pattern : e.pattern with
    | static =>
      rw [startPattern_of_static n entry pattern]
      obtain ⟨records, rejoined, each⟩ := rejoin_frame { s with ptu := { s.ptu with engine := .static, dclk := false, drv := e.staticDrive } }
      exact ⟨records, _, rejoined, each⟩
    | loop k =>
      rw [startPattern_of_loop n entry pattern]
      obtain ⟨records, members, begun, each, _⟩ :=
        beginPass_frame { s with ptu := s.ptu.started e s.prof.loops[k]? s.slot.val n }
      exact ⟨records, _, begun, each⟩

/-- A start request moves the player, the station gate, and of the records the SETTLED sockets alone (R113, R120, R121,
R126). -/
theorem requestStart_frame (s : State) (n : Nat) : ∃ (records : Vector SocketRecord 16) (gate : Bool) (ptu : Ptu),
    s.requestStart n = { s with acu := { s.acu with records := records, stationGate := gate }, ptu := ptu } ∧
      ∀ i : Socket, records[i] = { s.acu.records[i] with
        state := if s.ptu.engine ≠ .stopping ∧ (s.rcu.entry s.rcu.phase).isSome then (s.socketState i).rejoin
                 else s.socketState i } := by
  by_cases stopping : s.ptu.engine = .stopping
  · rw [requestStart_of_stopping n stopping]
    exact ⟨s.acu.records, s.acu.stationGate, _, rfl, fun i => by rw [if_neg (fun h => h.1 stopping)]; rfl⟩
  · rw [requestStart_of_other n stopping, abandon_frame]
    obtain ⟨records, ptu, started, each⟩ := startPattern_frame
      (s := { s with ptu := s.abandon.ptu, acu := { s.acu with stationGate := s.abandon.acu.stationGate } }) n
    refine ⟨records, _, ptu, started, fun i => (each i).trans ?_⟩
    simp only [stopping, ne_eq, not_false_eq_true, true_and]
    rfl

/-! ### Finish requests -/

theorem requestFinish_of_playing (h : s.ptu.engine = .playing) :
    s.requestFinish = { s with ptu := { s.ptu with engine := .stopping, finishPending := true } } := by
  unfold State.requestFinish
  rw [h]

theorem requestFinish_of_static (h : s.ptu.engine = .static) : s.requestFinish = s.stopEngine.stopComplete := by
  unfold State.requestFinish
  rw [h]

theorem requestFinish_of_stopping (h : s.ptu.engine = .stopping) : s.requestFinish = s := by
  unfold State.requestFinish
  rw [h]

theorem requestFinish_of_stopped (h : s.ptu.engine = .stopped) : s.requestFinish = s.stopComplete := by
  unfold State.requestFinish
  rw [h]

/-- Outside a transition that stops, a stop complete in ACTIVE does nothing (R124). -/
theorem stopComplete_of_active (active : s.rcu.state = .active) (sub : s.rcu.sub ≠ some .transition) : s.stopComplete = s := by
  unfold State.stopComplete
  rw [active]
  dsimp only
  split
  · next h _ => exact absurd h sub
  · rfl

/-- A transition that stops goes on to its delta (R40, R41, R124). -/
theorem stopComplete_of_transition {target : Nat} (active : s.rcu.state = .active) (sub : s.rcu.sub = some .transition)
    (transit : s.rcu.transit = some { target := target, stage := .stopping }) : s.stopComplete = s.computeDelta target := by
  unfold State.stopComplete
  rw [active]
  dsimp only
  rw [sub, transit]
  exact if_pos rfl

/-- A WINDDOWN that waited for the stop powers down (R49, R124). -/
theorem stopComplete_of_windDown (windDown : s.rcu.state = .windDown) (waits : s.rcu.poweringDown = false) :
    s.stopComplete = s.powerDown := by
  unfold State.stopComplete
  rw [windDown]
  exact if_neg (by rw [waits]; decide)

/-! ### The sub-states at a mark -/

variable {hold clash : Bool}

theorem runMark_of_bringUp (active : s.rcu.state = .active) (sub : s.rcu.sub = some .bringUp) :
    s.runMark hold clash = s.bringUpMark hold := by
  unfold State.runMark
  rw [active]
  dsimp only
  rw [sub]

theorem runMark_of_running (active : s.rcu.state = .active) (sub : s.rcu.sub = some .running) :
    s.runMark hold clash = s.runningMark hold := by
  unfold State.runMark
  rw [active]
  dsimp only
  rw [sub]

theorem runMark_of_transition (active : s.rcu.state = .active) (sub : s.rcu.sub = some .transition) :
    s.runMark hold clash = s.transitionMark hold := by
  unfold State.runMark
  rw [active]
  dsimp only
  rw [sub]

theorem runMark_of_held (active : s.rcu.state = .active) (sub : s.rcu.sub = some .held) :
    s.runMark hold clash = s.heldMark hold := by
  unfold State.runMark
  rw [active]
  dsimp only
  rw [sub]

/-- A mark in BRINGUP with the rails up and no socket POWERING ends it (R32). -/
theorem bringUpMark_of_ready (up : s.railsUp = true) (settled : ∀ i : Socket, s.socketState i ≠ .powering) :
    s.bringUpMark false = s.enterRunning 0 := by
  have calm : allSockets.any (fun i => s.socketState i == .powering) = false := by simp [settled]
  unfold State.bringUpMark
  rw [if_neg Bool.false_ne_true, if_pos (by rw [up, calm]; rfl)]

/-- A mark in HELD without rack hold returns to RUNNING where it was remembered (R39). -/
theorem heldMark_of_running (remembered : s.rcu.remembered = some .running) :
    s.heldMark false = s.enterRunning s.prof.reentry := (if_neg Bool.false_ne_true).trans (if_pos remembered)

end

end Sys2Proof.Machine

namespace Sys2Proof

open Machine

/-- Settles O45: a start request of each engine, and the marks that make one. -/
theorem patternStartsAtTheMark : Obligations.PatternStartsAtTheMark := by
  refine ⟨fun s n => ⟨requestStart_of_stopping n, fun e other entry => ?_⟩, fun s clash active => ?_⟩
  · intro t
    obtain ⟨records, gate, ptu, started, each⟩ := requestStart_frame s n
    have eq : t = { s with acu := { s.acu with records := records, stationGate := gate }, ptu := ptu } := started
    have direct : t = s.abandon.startPattern n := requestStart_of_other n other
    have recordOf (i : Socket) : t.acu.records[i] = { s.acu.records[i] with state := (s.socketState i).rejoin } := by
      rw [eq]
      exact (each i).trans (by rw [if_pos ⟨other, by rw [entry]; rfl⟩])
    rw [abandon_frame] at direct
    refine ⟨?_, ?_, ?_, ?_, ?_, recordOf, fun static => ?_, fun k l looped held => ?_⟩
    · rw [eq]
    · rw [eq]
    · rw [eq]
    · rw [eq]
    · rw [eq]
    · obtain ⟨rejoined, rejoin, _⟩ := rejoin_frame { s with
        ptu := { s.abandon.ptu with engine := .static, dclk := false, drv := e.staticDrive }
        acu := { s.acu with stationGate := s.abandon.acu.stationGate } }
      have now := direct.trans ((startPattern_of_static n (by exact entry) static).trans rejoin)
      unfold State.driveLines State.clockLine
      rw [now]
      exact ⟨rfl, rfl, rfl⟩
    · obtain ⟨rejoined, members, begun, rejoinOf, membersOf⟩ := beginPass_frame { s with
        ptu := s.abandon.ptu.started e s.prof.loops[k]? s.slot.val n
        acu := { s.acu with stationGate := s.abandon.acu.stationGate } }
      have now := direct.trans ((startPattern_of_loop n (by exact entry) looped).trans begun)
      have player : t.ptu = (s.abandon.ptu.started e (some l) s.slot.val n).begun s.prof members := by
        rw [now, ← held]
        rfl
      have memberOf (i : Socket) : t.ptu.members[i] = true ↔ t.socketState i = .running := by
        rw [player]
        show members[i] = true ↔ t.acu.records[i].state = _
        rw [membersOf i, recordOf i]
        exact beq_iff_eq
      unfold State.clockLine
      rw [player] at memberOf ⊢
      refine ⟨rfl, rfl, rfl, rfl, rfl, rfl, rfl, rfl, invertedAt_zero _, rfl, rfl, rfl, rfl, fun v vector => ?_, fun i => ⟨?_, memberOf i⟩⟩
      · show ((s.prof.vectors[l.first]?).map PatternVector.clocks).getD 0 = v.clocks
        rw [vector]
        rfl
      · show (Vector.replicate 16 (0xFFFF : Half))[i] = _
        simp
  · intro run
    exact ⟨fun sub up settled => (runMark_of_bringUp active sub).trans (bringUpMark_of_ready up settled),
      fun sub remembered => (runMark_of_held active sub).trans (heldMark_of_running remembered)⟩

end Sys2Proof
end

section
/-! SUPPORT. Run control at a mark: the start of a run, rack hold, the phase agreement and the transition (R29 to R42, R57, R58,
R66, R67, R74, R75, R124, R137). -/

namespace Sys2Proof.Machine

/-! ### The highest of a list of phases -/

/-- The highest phase of a list stands in it, and no phase of it is higher. -/
theorem highestPhase_of_some {l : List Nat} {q : Nat} (h : highestPhase l = some q) : q ∈ l ∧ ∀ p ∈ l, p ≤ q := by
  have max : highestPhase l = l.max? := by cases l <;> rfl
  rw [max, List.max?_eq_some_iff] at h
  exact h

/-- Only the empty list has no highest phase. -/
theorem highestPhase_of_none {l : List Nat} (h : highestPhase l = none) : l = [] := by
  cases l with
  | nil => rfl
  | cons p ps => cases h

/-- The highest phase of a list, by what it is. -/
theorem highestPhase_eq {l : List Nat} {q : Nat} (mem : q ∈ l) (highest : ∀ p ∈ l, p ≤ q) : highestPhase l = some q := by
  cases h : highestPhase l with
  | none =>
    rw [highestPhase_of_none h] at mem
    exact absurd mem List.not_mem_nil
  | some p =>
    obtain ⟨mem', highest'⟩ := highestPhase_of_some h
    rw [Nat.le_antisymm (highest p mem') (highest' q mem)]

section
variable {s : State}

/-! ### The start of a run -/

/-- The phases that a run joins at are those of the ACTIVE same-plan peers heard (R29, R31). -/
theorem mem_joinPhases (q : Nat) : q ∈ s.joinPhases ↔ ∃ (k : Station) (r : StatusReport), s.isOwn k = false ∧
    s.biu.rxStatus[k] = some r ∧ r.stateCode = 1 ∧ r.planCode = s.rcu.planCode ∧ s.rcu.planCode ≠ 0 ∧
    r.rackCode = s.ldr.rackCode ∧ r.phase = q := by
  have report (k : Station) (r : StatusReport) : (k, r) ∈ s.peerReports ↔ s.isOwn k = false ∧ s.biu.rxStatus[k] = some r := by
    unfold State.peerReports
    rw [List.mem_filterMap]
    refine ⟨fun ⟨j, _, h⟩ => ?_, fun ⟨other, heard⟩ => ⟨k, List.mem_finRange k, by rw [other, heard]; rfl⟩⟩
    cases own : s.isOwn j with
    | true => rw [own] at h; cases h
    | false =>
      rw [own] at h
      cases heard : s.biu.rxStatus[j] with
      | none => rw [heard] at h; cases h
      | some r' =>
        rw [heard] at h
        cases h
        exact ⟨own, heard⟩
  have fits (r : StatusReport) : (r.stateCode == 1 && s.samePlan r && r.rackCode == s.ldr.rackCode) = true ↔
      r.stateCode = 1 ∧ r.planCode = s.rcu.planCode ∧ s.rcu.planCode ≠ 0 ∧ r.rackCode = s.ldr.rackCode := by
    simp [State.samePlan, and_assoc]
  unfold State.joinPhases
  simp only [List.mem_map, List.mem_filter, fits]
  constructor
  · rintro ⟨⟨k, r⟩, ⟨mem, state, plan, some_plan, rack⟩, phase⟩
    obtain ⟨other, heard⟩ := (report k r).1 mem
    exact ⟨k, r, other, heard, state, plan, some_plan, rack, phase⟩
  · rintro ⟨k, r, other, heard, state, plan, some_plan, rack, phase⟩
    exact ⟨(k, r), ⟨(report k r).2 ⟨other, heard⟩, state, plan, some_plan, rack⟩, phase⟩

/-- A START that takes effect, field by field (R31, R137). -/
theorem startRun_frame (hold : Bool) (empty : s.bdu.queue = []) : ∃ records : Vector SocketRecord 16,
    s.startRun hold = { s with
      rcu := { s.rcu.start (highestPhase s.joinPhases) s.planTargets with
        sub := some (if hold then .held else .bringUp), remembered := if hold then some .bringUp else none }
      bdu := { s.bdu with queue := s.bringupNeeds (fun st => st == .off) }
      acu := { s.acu with records := records } } ∧
    ∀ i : Socket, records[i] =
      { s.acu.records[i] with credit := List.replicate ((highestPhase s.joinPhases).getD 0 + 1) 0 } := by
  obtain ⟨records, mapped, each⟩ := mapRecords_frame { s with rcu := s.rcu.start (highestPhase s.joinPhases) s.planTargets }
    (fun _ => SocketRecord.newCredit ((highestPhase s.joinPhases).getD 0))
  refine ⟨records, ?_, each⟩
  have wanted : State.bringupNeeds { s with
      rcu := s.rcu.start (highestPhase s.joinPhases) s.planTargets, acu := { s.acu with records := records } }
      (fun st => st == .off) = s.bringupNeeds (fun st => st == .off) := by
    unfold State.bringupNeeds State.socketState
    refine congrArg (fun l : List Socket => Need.railBase :: l.map Need.socket) (List.filter_congr fun i _ => ?_)
    rw [show ({ s with rcu := s.rcu.start (highestPhase s.joinPhases) s.planTargets
                       acu := { s.acu with records := records } } : State).acu.records[i] = _ from each i]
    rfl
  unfold State.startRun
  dsimp only
  rw [mapped]
  dsimp only
  rw [placeBringup_frame (s := { s with
    rcu := s.rcu.start (highestPhase s.joinPhases) s.planTargets, acu := { s.acu with records := records } }) empty, wanted]
  rfl

/-- The target of a phase of the plan, as a run starts (R29). -/
theorem planTargets_getD {p : Nat} {e : PlanEntry} (inPlan : p < s.rcu.planLength) (entry : s.rcu.entry p = some e) :
    s.planTargets.getD p 0 = roundsOf e.minutes s.prof.period := by
  unfold State.planTargets
  rw [List.getD_eq_getElem _ _ (by simpa using inPlan), List.getElem_map, List.getElem_range, entry]
  rfl

/-- A pending START of a complete plan is taken up (R30, R31). -/
theorem runMark_of_start {hold : Bool} (idle : s.rcu.state = .idle) (pending : s.rcu.startPending = true)
    (complete : s.rcu.planComplete = true) : s.runMark hold false = s.startRun hold := by
  unfold State.runMark
  rw [idle]
  exact if_pos (by rw [pending, complete]; rfl)

/-! ### The phase agreement -/

/-- A peer considered in the phase agreement (R33). -/
theorem considered_iff (k : Station) : s.considered k = true ↔ s.isOwn k = false ∧
    (s.biu.peers[k].presence = .live ∨ s.biu.peers[k].presence = .silent) ∧ s.biu.peers[k].report.stateCode = 1 ∧
    s.biu.peers[k].report.planCode = s.rcu.planCode ∧ s.rcu.planCode ≠ 0 ∧ s.biu.peers[k].rackDiffers = false := by
  simp [State.considered, State.samePlan, and_assoc]

/-- A considered peer heard in the round at a higher phase (R33). -/
def State.ahead (s : State) (k : Station) : Prop :=
  s.considered k = true ∧ s.biu.peers[k].presence = .live ∧ s.rcu.phase < s.biu.peers[k].report.phase

theorem mem_higherPhases (q : Nat) : q ∈ s.higherPhases ↔ ∃ k, s.ahead k ∧ s.biu.peers[k].report.phase = q := by
  simp [State.higherPhases, State.ahead, allStations, and_assoc]

/-- The agreement of R33: the own vote sent, and every considered peer that is no laggard heard here with its vote true. -/
theorem agreed_iff : s.agreed = true ↔ s.rcu.sentVote = true ∧ ∀ k : Station, s.considered k = true →
    s.rcu.phase ≤ s.biu.peers[k].report.phase →
    s.biu.peers[k].presence = .live ∧ s.biu.peers[k].report.phase = s.rcu.phase ∧ s.biu.peers[k].report.vote = true := by
  have at_station (k : Station) :
      (!(s.considered k && decide (s.rcu.phase ≤ s.biu.peers[k].report.phase)) ||
        (s.biu.peers[k].presence == .live && s.biu.peers[k].report.phase == s.rcu.phase && s.biu.peers[k].report.vote)) = true ↔
      (s.considered k = true → s.rcu.phase ≤ s.biu.peers[k].report.phase →
        s.biu.peers[k].presence = .live ∧ s.biu.peers[k].report.phase = s.rcu.phase ∧ s.biu.peers[k].report.vote = true) := by
    generalize s.biu.peers[k] = e
    cases s.considered k
    · simp
    · by_cases reached : s.rcu.phase ≤ e.report.phase
      · simp [reached, and_assoc]
      · simp [reached]
  unfold State.agreed
  rw [Bool.and_eq_true, List.all_eq_true]
  exact and_congr_right fun _ => ⟨fun all k => (at_station k).1 (all k (List.mem_finRange k)),
    fun all k _ => (at_station k).2 (all k)⟩

/-- The candidate phase, row by row (R33). -/
theorem advanceCandidate_spec (s : State) :
    ((∃ k, s.ahead k) → (∃ k, s.ahead k ∧ s.biu.peers[k].report.phase = s.advanceCandidate) ∧
      ∀ k, s.ahead k → s.biu.peers[k].report.phase ≤ s.advanceCandidate) ∧
    ((¬∃ k, s.ahead k) → s.agreed = true → s.advanceCandidate = s.rcu.phase + 1) ∧
    ((¬∃ k, s.ahead k) → ¬s.agreed = true → s.advanceCandidate = s.rcu.phase) := by
  unfold State.advanceCandidate
  cases h : highestPhase s.higherPhases with
  | none =>
    have nobody : ¬∃ k, s.ahead k := fun ⟨k, ahead⟩ => by
      have mem := (mem_higherPhases (s := s) _).2 ⟨k, ahead, rfl⟩
      rw [highestPhase_of_none h] at mem
      exact absurd mem List.not_mem_nil
    exact ⟨fun ahead => absurd ahead nobody, fun _ agreed => if_pos agreed, fun _ apart => if_neg apart⟩
  | some q =>
    obtain ⟨mem, highest⟩ := highestPhase_of_some h
    obtain ⟨k, ahead, phase⟩ := (mem_higherPhases q).1 mem
    exact ⟨fun _ => ⟨⟨k, ahead, phase⟩, fun j ahead' => highest _ ((mem_higherPhases _).2 ⟨j, ahead', rfl⟩)⟩,
      fun nobody => absurd ⟨k, ahead⟩ nobody, fun nobody => absurd ⟨k, ahead⟩ nobody⟩

/-! ### The retarget -/

/-- Each socket that holds an allowance stands at one amount (R67, R86). -/
theorem mapPower_frame (s : State) (f : Socket → SocketPower → SocketPower) : ∃ sockets : Vector SocketPower 16,
    s.mapPower f = { s with rlu := { s.rlu with sockets := sockets } } ∧ ∀ i : Socket, sockets[i] = f i s.rlu.sockets[i] :=
  ⟨(s.mapPower f).rlu.sockets, rfl, State.mapPower_sockets s f⟩

/-- The completion of a retarget, field by field (R42, R66, R67, R75). -/
theorem retargetComplete_frame (s : State) (target : Nat) : ∃ sockets : Vector SocketPower 16,
    s.retargetComplete target = { s with
      rcu := { s.rcu with transit := some { target := target, stage := .complete } }
      rlu := { s.rlu with sockets := sockets }
      bdu := { s.bdu with ownHeld := s.prof.base[s.rcu.levelA target] +
        s.holders * s.prof.allowance[s.rcu.levelA target] + s.thu.tokens * s.prof.nominal } } ∧
    ∀ i : Socket, sockets[i] = if (s.socketState i).holds then
      { s.rlu.sockets[i] with allowance := s.prof.allowance[s.rcu.levelA target]
                              threshold := s.prof.allowance[s.rcu.levelA target] } else s.rlu.sockets[i] := by
  obtain ⟨sockets, mapped, each⟩ := mapPower_frame s (fun i p => if (s.socketState i).holds then
    { p with allowance := s.prof.allowance[s.rcu.levelA target], threshold := s.prof.allowance[s.rcu.levelA target] } else p)
  refine ⟨sockets, ?_, each⟩
  unfold State.retargetComplete
  dsimp only
  rw [mapped]
  rfl

theorem takeRetarget_of_same (target : Nat) (r : Rail) (rest : List Rail)
    (same : s.rcu.railLevel target r = s.rcu.railLevel s.rcu.phase r) :
    s.takeRetarget target (r :: rest) = s.takeRetarget target rest := by
  rw [State.takeRetarget, if_pos same]

theorem takeRetarget_of_changed (target : Nat) (r : Rail) (rest : List Rail)
    (changed : s.rcu.railLevel target r ≠ s.rcu.railLevel s.rcu.phase r) :
    s.takeRetarget target (r :: rest) = s.modRail r (fun _ =>
      { state := .retargeting, level := s.rcu.railLevel target r, streak := 0
        timer := some (msTicks s.prof.railSettle[r.ix]) }) := by
  rw [State.takeRetarget, if_neg changed]

/-- With no level changed the retarget completes (R74, R75). -/
theorem takeRetarget_of_all_same (target : Nat) (l : List Rail)
    (same : ∀ r : Rail, s.rcu.railLevel target r = s.rcu.railLevel s.rcu.phase r) :
    s.takeRetarget target l = s.retargetComplete target := by
  induction l with
  | nil => rfl
  | cons r rest ih => rw [takeRetarget_of_same target r rest (same r), ih]

/-- The first rail whose level differs is RETARGETING (R74). -/
theorem takeRetarget_first (target : Nat) (r : Rail) (changed : s.rcu.railLevel target r ≠ s.rcu.railLevel s.rcu.phase r)
    (before : ∀ q : Rail, q.ix < r.ix → s.rcu.railLevel target q = s.rcu.railLevel s.rcu.phase q) :
    s.takeRetarget target allRails = s.modRail r (fun _ =>
      { state := .retargeting, level := s.rcu.railLevel target r, streak := 0
        timer := some (msTicks s.prof.railSettle[r.ix]) }) := by
  unfold allRails
  cases r with
  | a => rw [takeRetarget_of_changed target .a _ changed]
  | b => rw [takeRetarget_of_same target .a _ (before .a (by decide)), takeRetarget_of_changed target .b _ changed]
  | c =>
    rw [takeRetarget_of_same target .a _ (before .a (by decide)), takeRetarget_of_same target .b _ (before .b (by decide)),
      takeRetarget_of_changed target .c _ changed]

/-- The start of a retarget, with its rails still to be taken (R41, R74, R86). -/
theorem startRetarget_frame (s : State) (target : Nat) : ∃ sockets : Vector SocketPower 16,
    s.startRetarget target = State.takeRetarget { s with
      rcu := { s.rcu with transit := some { target := target, stage := .retargeting } }
      rlu := { s.rlu with sockets := sockets } } target allRails ∧
    ∀ i : Socket, sockets[i] = if (s.socketState i).holds then
      { s.rlu.sockets[i] with
        allowance := s.prof.allowance[max (s.rcu.levelA s.rcu.phase) (s.rcu.levelA target)]
        threshold := s.prof.allowance[max (s.rcu.levelA s.rcu.phase) (s.rcu.levelA target)] } else s.rlu.sockets[i] := by
  obtain ⟨sockets, mapped, each⟩ := mapPower_frame s (fun i p => if (s.socketState i).holds then
    { p with allowance := s.prof.allowance[max (s.rcu.levelA s.rcu.phase) (s.rcu.levelA target)]
             threshold := s.prof.allowance[max (s.rcu.levelA s.rcu.phase) (s.rcu.levelA target)] } else p)
  refine ⟨sockets, ?_, each⟩
  unfold State.startRetarget
  dsimp only
  rw [mapped]

/-- Taking the rails of a retarget moves the stage of the transition alone in run control (R74, R75). -/
theorem takeRetarget_rcu (target : Nat) (l : List Rail)
    (transit : s.rcu.transit = some { target := target, stage := .retargeting }) :
    ∃ stage, (s.takeRetarget target l).rcu = { s.rcu with transit := some { target := target, stage := stage } } := by
  induction l with
  | nil =>
    obtain ⟨sockets, complete, _⟩ := retargetComplete_frame s target
    exact ⟨.complete, congrArg State.rcu complete⟩
  | cons r rest ih =>
    by_cases same : s.rcu.railLevel target r = s.rcu.railLevel s.rcu.phase r
    · rw [takeRetarget_of_same target r rest same]
      exact ih
    · rw [takeRetarget_of_changed target r rest same]
      exact ⟨.retargeting, by rw [← transit]; rfl⟩

/-- The delta computed, a transition stands at one of its stages (R40, R41). -/
theorem computeDelta_rcu (s : State) (target : Nat) :
    ∃ stage, (s.computeDelta target).rcu = { s.rcu with transit := some { target := target, stage := stage } } := by
  unfold State.computeDelta
  split
  · exact ⟨.granting, rfl⟩
  · obtain ⟨sockets, started, _⟩ := startRetarget_frame s target
    rw [started]
    exact takeRetarget_rcu target allRails rfl

/-! ### The entry into a transition, and the end of the run -/

/-- Toward a target the station is in TRANSITION, whatever the engine was (R40, R124). -/
theorem enterTransition_rcu (target : Nat) (active : s.rcu.state = .active) : ∃ stage, (s.enterTransition target).rcu =
    { s.rcu with sub := some .transition, transit := some { target := target, stage := stage } } := by
  unfold State.enterTransition
  generalize hu : ({ s with rcu := { s.rcu with
    sub := some .transition, transit := some { target := target, stage := .stopping } } } : State) = u
  have rcu : u.rcu = { s.rcu with sub := some .transition, transit := some { target := target, stage := .stopping } } := by
    rw [← hu]
  have completes (v : State) (same : v.rcu = u.rcu) : ∃ stage, v.stopComplete.rcu =
      { s.rcu with sub := some .transition, transit := some { target := target, stage := stage } } := by
    rw [stopComplete_of_transition (s := v) (target := target) (by rw [same, rcu]; exact active) (by rw [same, rcu])
      (by rw [same, rcu])]
    obtain ⟨stage, moved⟩ := computeDelta_rcu v target
    exact ⟨stage, by rw [moved, same, rcu]⟩
  cases engine : u.ptu.engine with
  | playing => rw [requestFinish_of_playing engine]; exact ⟨.stopping, rcu⟩
  | static => rw [requestFinish_of_static engine]; exact completes u.stopEngine rfl
  | stopping => rw [requestFinish_of_stopping engine]; exact ⟨.stopping, rcu⟩
  | stopped => rw [requestFinish_of_stopped engine]; exact completes u rfl

/-- A run that is complete winds down, or is over at once where its rails are OFF (R34, R49). -/
theorem completeRun_rcu (s : State) : let t := s.completeRun
    (t.rcu.state = .windDown ∨ t.rcu.state = .done) ∧ t.rcu.endCause = some .complete ∧ t.rcu.sub = none ∧
      t.bdu.queue = [] ∧ t.rcu.phase = s.rcu.phase := by
  unfold State.completeRun
  have powersDown (v : State) (rcu : v.rcu = (s.enterWinddown .complete).rcu) (queue : v.bdu.queue = []) :
      let t := v.stopComplete
      (t.rcu.state = .windDown ∨ t.rcu.state = .done) ∧ t.rcu.endCause = some .complete ∧ t.rcu.sub = none ∧
        t.bdu.queue = [] ∧ t.rcu.phase = s.rcu.phase := by
    rw [stopComplete_of_windDown (by rw [rcu]; rfl) (by rw [rcu]; rfl)]
    obtain ⟨_, moved, _, _, same, _⟩ := powerDown_spec (s := v) (by rw [rcu]; rfl)
    rw [queue] at same
    generalize v.powerDown = t at moved same
    intro t
    rcases moved with e | e <;> rw [show t.rcu = _ from e, rcu]
    · exact ⟨.inl rfl, rfl, rfl, same, rfl⟩
    · exact ⟨.inr rfl, rfl, rfl, same, rfl⟩
  cases engine : (s.enterWinddown .complete).ptu.engine with
  | playing => rw [requestFinish_of_playing engine]; exact ⟨.inl rfl, rfl, rfl, rfl, rfl⟩
  | static => rw [requestFinish_of_static engine]; exact powersDown _ rfl rfl
  | stopping => rw [requestFinish_of_stopping engine]; exact ⟨.inl rfl, rfl, rfl, rfl, rfl⟩
  | stopped => rw [requestFinish_of_stopped engine]; exact powersDown _ rfl rfl

end

end Sys2Proof.Machine
end

section
/-! SUPPORT. The statements about run control at a mark (R29 to R42, R57, R58, R66, R67, R74, R75, R137). -/

namespace Sys2Proof.Machine

section
variable {s : State} {hold clash : Bool}

/-- The entry into RUNNING: run control is there, whatever the engine does (R32, R39, R42). -/
theorem enterRunning_rcu (s : State) (n : Nat) :
    (s.enterRunning n).rcu = { s.rcu with sub := some .running, remembered := none } := by
  unfold State.enterRunning
  obtain ⟨records, gate, ptu, started, _⟩ :=
    requestStart_frame { s with rcu := { s.rcu with sub := some .running, remembered := none } } n
  rw [started]

/-- A mark in RUNNING under rack hold enters HELD, and asks the engine for a stop (R38, R124). -/
theorem runningMark_of_hold (active : s.rcu.state = .active) :
    s.runningMark true =
      match s.ptu.engine with
      | .playing => { s.enterHeld .running with ptu := { s.ptu with engine := .stopping, finishPending := true } }
      | .static => (s.enterHeld .running).stopEngine
      | _ => s.enterHeld .running := by
  have held : (s.enterHeld .running).requestFinish = s.runningMark true := rfl
  have stays (t : State) (same : t.rcu = (s.enterHeld .running).rcu) : t.stopComplete = t :=
    stopComplete_of_active (by rw [same]; exact active) (by rw [same]; exact nofun)
  have engine : (s.enterHeld .running).ptu.engine = s.ptu.engine := rfl
  rw [← held]
  cases h : s.ptu.engine with
  | playing => exact requestFinish_of_playing (engine.trans h)
  | static => exact (requestFinish_of_static (engine.trans h)).trans (stays _ rfl)
  | stopping => exact requestFinish_of_stopping (engine.trans h)
  | stopped => exact (requestFinish_of_stopped (engine.trans h)).trans (stays _ rfl)

/-- A mark in HELD without rack hold, where BRINGUP was remembered (R39). -/
theorem heldMark_of_other (remembered : s.rcu.remembered ≠ some .running) :
    s.heldMark false = { s with rcu := { s.rcu with sub := some .bringUp, remembered := none } } :=
  (if_neg Bool.false_ne_true).trans (if_neg remembered)

/-- A mark in RUNNING without rack hold decides on the phase (R33, R34). -/
theorem runMark_of_decision (active : s.rcu.state = .active) (sub : s.rcu.sub = some .running) :
    s.runMark false clash = s.decidePhase := (runMark_of_running active sub).trans (if_neg Bool.false_ne_true)

/-- The mark after a completed retarget arrives at the target (R42). -/
theorem runMark_of_arrival {target : Nat} (active : s.rcu.state = .active) (sub : s.rcu.sub = some .transition)
    (transit : s.rcu.transit = some { target := target, stage := .complete }) :
    s.runMark hold clash = s.arrive target hold := by
  rw [runMark_of_transition active sub]
  unfold State.transitionMark
  rw [transit]
  exact if_pos rfl

/-- The state as it arrives at a target, the records as they are then (R35, R42, R123, R137). -/
def State.arrivedAt (s : State) (target : Nat) (records : Vector SocketRecord 16) : State :=
  { s with rcu := s.rcu.arrive target, acu := { s.acu with records := records } }

/-- What arrives is HELD or RUNNING (R42). -/
theorem arrive_eq (s : State) (target : Nat) (hold : Bool) :
    s.arrive target hold =
      let arrived := s.arrivedAt target
        (Vector.ofFn (fun i : Socket => s.acu.records[i].nextPhase (target - s.rcu.phase)))
      if hold then arrived.enterHeld .running else arrived.enterRunning 0 := rfl

end

end Sys2Proof.Machine

namespace Sys2Proof

open Machine

/-- Settles O46: a START that takes effect, and the phase it joins at. -/
theorem startSetsUpTheRun : Obligations.StartSetsUpTheRun := by
  intro s hold idle pending complete empty t joined
  obtain ⟨records, started, recordsOf⟩ := startRun_frame hold empty
  have eq : t = _ := (runMark_of_start (hold := hold) idle pending complete).trans started
  clear_value t
  subst eq
  refine ⟨rfl, rfl, rfl, rfl, fun nobody => ?_, fun q at_q highest => ?_, fun free => ?_, fun held => ?_, rfl, recordsOf,
    fun p e inPlan entry => planTargets_getD inPlan entry⟩
  · have none_joins : highestPhase s.joinPhases = none := by
      cases h : highestPhase s.joinPhases with
      | none => rfl
      | some q => exact absurd ⟨q, (mem_joinPhases q).1 (highestPhase_of_some h).1⟩ nobody
    rw [none_joins]
    exact ⟨rfl, rfl⟩
  · have joins : highestPhase s.joinPhases = some q :=
      highestPhase_eq ((mem_joinPhases q).2 at_q) (fun p mem => highest p ((mem_joinPhases p).1 mem))
    rw [joins]
    exact ⟨rfl, rfl⟩
  · rw [free]
    exact ⟨rfl, rfl⟩
  · rw [held]
    exact ⟨rfl, rfl⟩

/-- Settles O47: rack hold at a mark, sub-state by sub-state. -/
theorem rackHoldHoldsAndReleases : Obligations.RackHoldHoldsAndReleases := by
  refine fun s clash active => ⟨fun sub => ?_, fun sub => ?_, fun sub => ⟨?_, fun remembered => ?_, fun remembered => ?_, ?_⟩⟩
  · rw [runMark_of_running active sub, runningMark_of_hold active]
    cases h : s.ptu.engine with
    | playing => exact ⟨rfl, rfl, fun _ => rfl, nofun⟩
    | static => exact ⟨rfl, rfl, nofun, fun _ => rfl⟩
    | stopping => exact ⟨rfl, rfl, nofun, nofun⟩
    | stopped => exact ⟨rfl, rfl, nofun, nofun⟩
  · rw [runMark_of_bringUp active sub]
    rfl
  · rw [runMark_of_held active sub]
    rfl
  · rw [runMark_of_held active sub, heldMark_of_other (by rw [remembered]; decide)]
  · rw [runMark_of_held active sub, heldMark_of_running remembered, enterRunning_rcu]
  · rw [runMark_of_held active sub]
    by_cases remembered : s.rcu.remembered = some .running
    · rw [heldMark_of_running remembered, enterRunning_rcu]
    · rw [heldMark_of_other remembered]

/-- Settles O48: the target of R33, and what a mark in RUNNING does with it. -/
theorem advanceTargetFollowsTheVotes : Obligations.AdvanceTargetFollowsTheVotes := by
  refine fun s => ⟨considered_iff, ?_⟩
  intro higher agrees
  obtain ⟨catchUp, agreement, stays⟩ := advanceCandidate_spec s
  refine ⟨⟨s.advanceCandidate, ?_, catchUp, fun nobody agree => agreement nobody (agreed_iff.2 agree),
    fun nobody apart => stays nobody (fun agree => apart (agreed_iff.1 agree))⟩, fun active sub clash => ?_⟩
  · unfold State.advanceTarget
    split <;> rfl
  · intro t
    have decided : t = s.decidePhase := runMark_of_decision active sub
    unfold State.decidePhase at decided
    refine ⟨fun stay => ?_, fun moves within => ?_, fun moves past => ?_⟩
    · rw [decided]
      exact if_pos stay
    · have entered : t = s.enterTransition s.advanceTarget := decided.trans ((if_neg moves).trans (if_pos within))
      obtain ⟨stage, rcu⟩ := enterTransition_rcu s.advanceTarget active
      rw [entered, rcu]
      exact ⟨active, rfl, rfl, rfl⟩
    · have completed : t = s.completeRun := decided.trans ((if_neg moves).trans (if_neg (Nat.not_lt.2 past)))
      rw [completed]
      exact completeRun_rcu s

/-- Settles O49: the delta, the retarget and the arrival. -/
theorem transitionFollowsItsDelta : Obligations.TransitionFollowsItsDelta := by
  refine ⟨fun s target => ?_, fun s target => ?_, fun s target hold clash active sub transit => ?_⟩
  · intro old new
    refine ⟨rfl, fun active sub transit => ⟨fun up => ?_, fun down => ?_⟩⟩
    · rw [stopComplete_of_transition active sub transit]
      exact (if_pos up).trans (by unfold State.placeNeed place; rfl)
    · rw [stopComplete_of_transition active sub transit]
      exact if_neg (Int.not_lt.2 down)
  · intro t same both new
    obtain ⟨sockets, started, socketsOf⟩ := startRetarget_frame s target
    let begun : State := { s with
      rcu := { s.rcu with transit := some { target := target, stage := .retargeting } }
      rlu := { s.rlu with sockets := sockets } }
    have eq : t = begun.takeRetarget target allRails := started
    refine ⟨fun r changed before => ?_, fun all => ?_⟩
    · rw [eq, takeRetarget_first (s := begun) target r changed before]
      exact ⟨rfl, rfl, rfl, socketsOf⟩
    · rw [eq, takeRetarget_of_all_same (s := begun) target allRails all]
      obtain ⟨sockets', completed, socketsOf'⟩ := retargetComplete_frame begun target
      rw [completed]
      refine ⟨rfl, rfl, rfl, fun i => (socketsOf' i).trans ?_⟩
      show (if (s.socketState i).holds = true then ({ sockets[i] with allowance := new, threshold := new } : SocketPower)
        else sockets[i]) = _
      rw [socketsOf i]
      split <;> rfl
  · intro t arrived
    have eq : t = if hold then arrived.enterHeld .running else arrived.enterRunning 0 :=
      (runMark_of_arrival active sub transit).trans (arrive_eq s target hold)
    have recordsOf (i : Socket) : arrived.acu.records[i] = { s.acu.records[i] with
        credit := s.acu.records[i].credit ++ List.replicate (target - s.rcu.phase) 0, streak := 0, soft := false } := by
      show (Vector.ofFn _)[i] = _
      simp
    have rcuOf : arrived.rcu = s.rcu.arrive target := rfl
    have ptuOf : arrived.ptu = s.ptu := rfl
    clear_value arrived
    cases hold with
    | true =>
      have held : t = arrived.enterHeld .running := eq
      rw [held]
      unfold State.enterHeld
      refine ⟨nofun, fun _ => rfl, ?_, ?_, ?_, nofun, fun _ => ⟨rfl, rfl, ptuOf⟩, fun i => ?_⟩
      · rw [rcuOf]; rfl
      · rw [rcuOf]; rfl
      · rw [rcuOf]; rfl
      · show arrived.acu.records[i].credit = _ ∧ arrived.acu.records[i].streak = _ ∧ arrived.acu.records[i].soft = _ ∧
          arrived.acu.records[i].exposure = _
        rw [recordsOf i]
        exact ⟨rfl, rfl, rfl, rfl⟩
    | false =>
      have running : t = arrived.enterRunning 0 := eq
      obtain ⟨records, gate, ptu, started, each⟩ := requestStart_frame
        { arrived with rcu := { arrived.rcu with sub := some .running, remembered := none } } 0
      have frame : t = _ := running.trans started
      have recordOf (i : Socket) : t.acu.records[i].credit = arrived.acu.records[i].credit ∧
          t.acu.records[i].streak = arrived.acu.records[i].streak ∧ t.acu.records[i].soft = arrived.acu.records[i].soft ∧
          t.acu.records[i].exposure = arrived.acu.records[i].exposure := by
        rw [frame]
        show records[i].credit = _ ∧ records[i].streak = _ ∧ records[i].soft = _ ∧ records[i].exposure = _
        rw [each i]
        exact ⟨rfl, rfl, rfl, rfl⟩
      refine ⟨fun _ => running, nofun, ?_, ?_, ?_, fun _ => ?_, nofun, fun i => ?_⟩
      · rw [frame, rcuOf]; rfl
      · rw [frame, rcuOf]; rfl
      · rw [frame, rcuOf]; rfl
      · rw [frame]
      · have at_i := recordOf i
        rw [recordsOf i] at at_i
        exact at_i

end Sys2Proof
end

section
/-! SUPPORT. Tokens, heater periods, the token count check, the schedule anchor and the gates of a round (R99, R101 to R105,
R138 to R140). -/

namespace Sys2Proof.Machine

section
variable {s : State} {i : Socket}

/-! ### A heater's period -/

/-- Two changes of one heater are one. -/
theorem modHeater_modHeater (i : Socket) (f g : Heater → Heater) :
    (s.modHeater i f).modHeater i g = s.modHeater i (fun h => g (f h)) := by
  have twice : ((s.thu.heaters.set i (f s.thu.heaters[i])).set i
      (g (s.thu.heaters.set i (f s.thu.heaters[i]))[i])) = s.thu.heaters.set i (g (f s.thu.heaters[i])) := by simp
  exact congrArg (fun v : Vector Heater 16 => { s with thu := { s.thu with heaters := v } }) twice

/-- A change that leaves the phase leaves the count of the heaters that are on (R103). -/
theorem onCount_modHeater_same {f : Heater → Heater} (phase : (f s.thu.heaters[i]).phase = s.thu.heaters[i].phase) :
    (s.modHeater i f).thu.onCount = s.thu.onCount := by
  rw [onCount_modHeater, phase]
  by_cases on : s.thu.heaters[i].phase = .on
  · have pos := onCount_pos s i on
    rw [if_pos on, Nat.sub_add_cancel pos]
  · rw [if_neg on]
    rfl

/-- With every heater stopped none is on (R101, R103). -/
theorem onCount_of_stopped (stopped : ∀ i : Socket, s.thu.heaters[i].phase = .stopped) : s.thu.onCount = 0 := by
  rw [onCount_eq, List.countP_eq_zero]
  intro h mem
  obtain ⟨n, bound, at_n⟩ := List.mem_iff_getElem.1 mem
  have short : n < 16 := by simpa using bound
  have phase := stopped ⟨n, short⟩
  rw [← at_n]
  simpa using (show s.thu.heaters[n].phase ≠ .on by rw [show s.thu.heaters[n].phase = .stopped from phase]; decide)

/-- A heater at its period start, before its token (R101, R102). -/
theorem latched_facts : let u := s.modHeater i (latch s.prof.heaterPeriod)
    u.thu.heaters[i].inForce = s.thu.heaters[i].onTime ∧ u.thu.onCount = s.thu.onCount := by
  intro u
  refine ⟨?_, onCount_modHeater_same rfl⟩
  rw [State.modHeater_heaters, if_pos rfl]
  rfl

/-- A period start with no on-time: the heater stays off (R102). -/
theorem startPeriod_of_zero (zero : s.thu.heaters[i].onTime = 0) :
    s.startPeriod i = s.modHeater i (fun h => turnOff (latch s.prof.heaterPeriod h)) := by
  obtain ⟨inForce, _⟩ := latched_facts (s := s) (i := i)
  rw [← modHeater_modHeater]
  exact if_pos (inForce.trans zero)

/-- A period start with a token free: the heater is ON (R102). -/
theorem startPeriod_of_free (some_time : s.thu.heaters[i].onTime ≠ 0) (free : s.thu.onCount < s.thu.tokens) :
    s.startPeriod i = s.modHeater i (fun h => turnOn (latch s.prof.heaterPeriod h)) := by
  obtain ⟨inForce, count⟩ := latched_facts (s := s) (i := i)
  rw [← modHeater_modHeater]
  have has : (s.modHeater i (latch s.prof.heaterPeriod)).thu.hasFree = true := by
    unfold Thu.hasFree
    rw [count]
    exact decide_eq_true free
  exact (if_neg (by rw [inForce]; exact some_time)).trans (if_pos has)

/-- A period start with no token free: the heater waits at the tail of the queue (R102). -/
theorem startPeriod_of_none (some_time : s.thu.heaters[i].onTime ≠ 0) (used : s.thu.tokens ≤ s.thu.onCount) :
    s.startPeriod i = State.modHeater { s with thu := { s.thu with waitQueue := s.thu.waitQueue ++ [i] } } i
      (fun h => waitToken (latch s.prof.heaterPeriod h)) := by
  obtain ⟨inForce, count⟩ := latched_facts (s := s) (i := i)
  have full : ¬(s.modHeater i (latch s.prof.heaterPeriod)).thu.hasFree = true := by
    unfold Thu.hasFree
    rw [count, decide_eq_true_eq]
    exact Nat.not_lt.2 used
  rw [← modHeater_modHeater]
  exact (if_neg (by rw [inForce]; exact some_time)).trans (if_neg full)

/-- A period start moves its own heater alone (R102). -/
theorem startPeriod_heaters_other {j : Socket} (other : j ≠ i) : (s.startPeriod i).thu.heaters[j] = s.thu.heaters[j] := by
  have apart : ¬i = j := fun e => other e.symm
  by_cases zero : s.thu.heaters[i].onTime = 0
  · rw [startPeriod_of_zero zero, State.modHeater_heaters, if_neg apart]
  · by_cases free : s.thu.onCount < s.thu.tokens
    · rw [startPeriod_of_free zero free, State.modHeater_heaters, if_neg apart]
    · rw [startPeriod_of_none zero (Nat.le_of_not_lt free), State.modHeater_heaters, if_neg apart]

/-- A heater neither ON nor WAITING has nothing to end (R102). -/
theorem endHeating_of_still (on : s.thu.heaters[i].phase ≠ .on) (waiting : s.thu.heaters[i].phase ≠ .waiting) :
    s.endHeating i = s := by
  unfold State.endHeating
  split
  · next h => exact absurd h on
  · next h => exact absurd h waiting
  · rfl

/-- A WAITING heater leaves the queue (R102, R104). -/
theorem endHeating_of_waiting (waiting : s.thu.heaters[i].phase = .waiting) :
    s.endHeating i = (s.modHeater i turnOff).leaveQueue i := by
  unfold State.endHeating
  rw [waiting]

/-- An ON heater returns its token (R102, R104). -/
theorem endHeating_of_on (on : s.thu.heaters[i].phase = .on) : s.endHeating i = (s.modHeater i turnOff).tokenReturned := by
  unfold State.endHeating
  rw [on]

/-- With a schedule running a period ends and the next starts (R102). -/
theorem nextPeriod_of_anchor (anchor : s.thu.anchor ≠ none) : s.nextPeriod i = (s.endHeating i).startPeriod i := if_neg anchor

/-- An ended heater's period end and start. -/
theorem nextPeriod_of_still (anchor : s.thu.anchor ≠ none) (on : s.thu.heaters[i].phase ≠ .on)
    (waiting : s.thu.heaters[i].phase ≠ .waiting) : s.nextPeriod i = s.startPeriod i := by
  rw [nextPeriod_of_anchor anchor, endHeating_of_still on waiting]

/-- A token returned under a pending release is released (R104). -/
theorem tokenReturned_of_pending (pending : s.thu.releasePending = true) : s.tokenReturned = s.releaseToken := if_pos pending

/-- A token returned otherwise goes to the head of the wait queue (R104). -/
theorem tokenReturned_of_free (free : s.thu.releasePending = false) : s.tokenReturned = s.serveHead :=
  if_neg (by rw [free]; exact Bool.false_ne_true)

/-- What an ON heater's end leaves of it, where it does not wait itself (R102, R104). -/
theorem endHeating_on_facts (on : s.thu.heaters[i].phase = .on) (absent : i ∉ s.thu.waitQueue) :
    (s.endHeating i).thu.heaters[i] = turnOff s.thu.heaters[i] ∧ (s.endHeating i).thu.anchor = s.thu.anchor := by
  have off : (s.modHeater i turnOff).thu.heaters[i] = turnOff s.thu.heaters[i] := by
    rw [State.modHeater_heaters, if_pos rfl]
  rw [endHeating_of_on on]
  cases pending : s.thu.releasePending with
  | true =>
    rw [tokenReturned_of_pending (s := s.modHeater i turnOff) pending]
    exact ⟨off, rfl⟩
  | false =>
    rw [tokenReturned_of_free (s := s.modHeater i turnOff) pending]
    cases queue : s.thu.waitQueue with
    | nil =>
      rw [serveHead_of_nil (s := s.modHeater i turnOff) queue]
      exact ⟨off, rfl⟩
    | cons j waits =>
      have apart : ¬j = i := fun e => absent (by rw [queue, e]; exact List.mem_cons_self)
      rw [serveHead_of_cons (s := s.modHeater i turnOff) queue]
      exact ⟨(State.modHeater_heaters _ j turnOn i).trans ((if_neg apart).trans off), rfl⟩

/-! ### Eligibility and the token count check -/

/-- The sub-states in which a socket may heat (R99). -/
theorem heats_iff : s.heats = true ↔
    (s.rcu.state = .active ∧ (s.rcu.sub = some .bringUp ∨ s.rcu.sub = some .running ∨ s.rcu.sub = some .transition ∨
      s.rcu.sub = some .held)) ∨ (s.rcu.state = .windDown ∧ s.rcu.poweringDown = false) := by
  unfold State.heats
  cases s.rcu.state <;> simp
  cases s.rcu.sub with
  | none => simp
  | some sub => cases sub <;> simp

/-- A socket is heating-eligible (R99). -/
theorem eligible_iff : s.eligible i = true ↔
    ((s.rcu.state = .active ∧ (s.rcu.sub = some .bringUp ∨ s.rcu.sub = some .running ∨ s.rcu.sub = some .transition ∨
      s.rcu.sub = some .held)) ∨ (s.rcu.state = .windDown ∧ s.rcu.poweringDown = false)) ∧
    (∃ e, s.rcu.entry s.rcu.phase = some e ∧ e.heater = true) ∧
    (s.socketState i = .settled ∨ s.socketState i = .running) := by
  unfold State.eligible
  rw [Bool.and_eq_true, Bool.and_eq_true, heats_iff, Option.any_eq_true, and_assoc]
  simp

/-- The tokens wanted at a mark (R105). -/
def State.tokensWanted (s : State) : Nat :=
  min s.prof.maxTokens (allSockets.filter (fun i => s.eligible i && s.thu.heaters[i].onTime != 0)).length

/-- The token count check, row by row (R105). -/
theorem tokenCheck_eq : s.tokenCheck =
    if s.thu.tokens < s.tokensWanted then
      State.placeNeed { s with thu := { s.thu with releasePending := false } } .heater
    else if s.thu.tokens = s.tokensWanted then
      State.withdraw { s with thu := { s.thu with releasePending := false } } .heater
    else if s.thu.releasePending then s.withdraw .heater
    else if s.thu.onCount < s.thu.tokens then (s.withdraw .heater).releaseToken
    else { s.withdraw .heater with thu := { s.thu with releasePending := true } } := by
  unfold State.tokenCheck State.tokensWanted
  exact if_congr Iff.rfl rfl (if_congr Iff.rfl rfl (if_congr Iff.rfl rfl (if_congr decide_eq_true_iff rfl rfl)))

/-- Dropping the on-time of the sockets that are not eligible (R99). -/
theorem dropIneligible_heaters : s.dropIneligible.thu.heaters[i] =
    { s.thu.heaters[i] with onTime := if s.eligible i then s.thu.heaters[i].onTime else 0 } := by
  unfold State.dropIneligible
  rw [State.mapHeaters_heaters]
  split <;> rfl

/-- The token count check leaves run control. -/
theorem tokenCheck_rcu : s.tokenCheck.rcu = s.rcu := by
  rw [tokenCheck_eq]
  split
  · rfl
  · split
    · rfl
    · split
      · rfl
      · split <;> rfl

/-! ### The anchor -/

/-- Before heater 0 starts: every period has ended, and a token returned under a pending release is released (R101, R104). -/
theorem anchored_frame (s : State) : ∃ u : State, s.setAnchor = u.startPeriod 0 ∧
    (∀ i : Socket, u.thu.heaters[i] = anchorHeater s.prof.heaterPeriod i s.thu.heaters[i]) ∧ u.thu.waitQueue = [] ∧
    u.thu.anchor = some s.biu.roundNumber ∧ u.ldr = s.ldr ∧
    ((s.thu.releasePending = true ∧ s.thu.onCount ≠ 0) → u.thu.tokens = s.thu.tokens - 1 ∧ u.thu.releasePending = false ∧
      u.bdu = { s.bdu with ownHeld := s.bdu.ownHeld - s.prof.nominal }) ∧
    (¬(s.thu.releasePending = true ∧ s.thu.onCount ≠ 0) → u.thu.tokens = s.thu.tokens ∧
      u.thu.releasePending = s.thu.releasePending ∧ u.bdu = s.bdu) := by
  obtain ⟨heaters, ended, each⟩ := mapHeaters_frame s (anchorHeater s.prof.heaterPeriod)
  have returned : (s.thu.releasePending && s.thu.onCount != 0) = true ↔ s.thu.releasePending = true ∧ s.thu.onCount ≠ 0 := by
    simp
  unfold State.setAnchor
  dsimp only
  rw [ended]
  by_cases back : s.thu.releasePending = true ∧ s.thu.onCount ≠ 0
  · rw [if_pos (returned.2 back)]
    exact ⟨_, rfl, each, rfl, rfl, rfl, fun _ => ⟨rfl, rfl, rfl⟩, fun no => absurd back no⟩
  · rw [if_neg (fun h => back (returned.1 h))]
    exact ⟨_, rfl, each, rfl, rfl, rfl, fun yes => absurd yes back, fun _ => ⟨rfl, rfl, rfl⟩⟩

/-- Heater 0's start is the schedule's alone: tokens, pending release and own held stay (R102). -/
theorem startPeriod_tokens : (s.startPeriod i).thu.tokens = s.thu.tokens ∧
    (s.startPeriod i).thu.releasePending = s.thu.releasePending ∧ (s.startPeriod i).thu.anchor = s.thu.anchor ∧
    (s.startPeriod i).bdu = s.bdu := by
  by_cases zero : s.thu.heaters[i].onTime = 0
  · rw [startPeriod_of_zero zero]
    exact ⟨rfl, rfl, rfl, rfl⟩
  · by_cases free : s.thu.onCount < s.thu.tokens
    · rw [startPeriod_of_free zero free]
      exact ⟨rfl, rfl, rfl, rfl⟩
    · rw [startPeriod_of_none zero (Nat.le_of_not_lt free)]
      exact ⟨rfl, rfl, rfl, rfl⟩

end

end Sys2Proof.Machine

namespace Sys2Proof

open Machine

/-- Settles O42: a period's start and end, by the heater's phase. -/
theorem heatersTakeAndReturnTokens : Obligations.HeatersTakeAndReturnTokens := by
  intro s i h next off
  refine ⟨fun anchor on waiting => ?_, fun anchor on absent => ?_, fun anchor waiting => ?_, fun on => ?_⟩
  · have starts {t : State} (e : s.startPeriod i = t) : exec (.heaterPeriodStart i) s = .next t :=
      congrArg Host.Outcome.next ((nextPeriod_of_still anchor on waiting).trans e)
    have stays_off (zero : h.onTime = 0) : turnOff (latch s.prof.heaterPeriod h) =
        { h with inForce := 0, nextStart := next, phase := .offTime, onLeft := none } := by
      unfold latch turnOff
      dsimp only
      rw [zero]
    refine ⟨fun zero => (starts (startPeriod_of_zero zero)).trans ?_, fun some_time free => starts (startPeriod_of_free some_time free),
      fun some_time used => starts (startPeriod_of_none some_time used)⟩
    exact congrArg (fun x : Heater => (Host.Outcome.next ({ s with
      thu := { s.thu with heaters := s.thu.heaters.set i x } } : State))) (stays_off zero)
  · obtain ⟨heater, same⟩ := endHeating_on_facts on absent
    refine ⟨s.endHeating i, congrArg Host.Outcome.next (if_pos on), heater, same, congrArg Host.Outcome.next ?_⟩
    have phase : (s.endHeating i).thu.heaters[i].phase = .offTime := by rw [heater]; rfl
    rw [nextPeriod_of_anchor anchor, nextPeriod_of_still (by rw [same]; exact anchor) (by rw [phase]; decide)
      (by rw [phase]; decide)]
  · intro left
    have leaves : s.endHeating i = left := endHeating_of_waiting waiting
    have phase : left.thu.heaters[i].phase = .offTime := by
      show (s.modHeater i turnOff).thu.heaters[i].phase = _
      rw [State.modHeater_heaters, if_pos rfl]
      rfl
    refine congrArg Host.Outcome.next ?_
    rw [nextPeriod_of_anchor anchor, leaves,
      nextPeriod_of_still (s := left) anchor (by rw [phase]; decide) (by rw [phase]; decide)]
  · have ends {t : State} (e : (s.modHeater i turnOff).tokenReturned = t) : exec (.heaterOnEnd i) s = .next t :=
      congrArg Host.Outcome.next ((if_pos on).trans ((endHeating_of_on on).trans e))
    refine ⟨fun pending => ends (tokenReturned_of_pending (s := s.modHeater i turnOff) pending), fun free empty => ends ?_,
      fun j rest free queue apart => ends ?_⟩
    · rw [tokenReturned_of_free (s := s.modHeater i turnOff) free, serveHead_of_nil (s := s.modHeater i turnOff) empty]
      rfl
    · rw [tokenReturned_of_free (s := s.modHeater i turnOff) free, serveHead_of_cons (s := s.modHeater i turnOff) queue]
      have other : (s.modHeater i turnOff).thu.heaters[j] = s.thu.heaters[j] := by
        rw [State.modHeater_heaters, if_neg (Ne.symm apart)]
      exact congrArg (fun x : Heater => ({ s with
        thu := { s.thu with heaters := off.set j (turnOn x), waitQueue := rest } } : State)) other

/-- Settles O43: eligibility, the token count check, the new anchor, and the gates of the round that begins. -/
theorem markSetsTokensAnchorAndGates : Obligations.MarkSetsTokensAnchorAndGates := by
  refine ⟨fun s i => eligible_iff, fun s => ?_, fun s before => ⟨fun other => if_neg other, fun active => ?_⟩, fun s => ?_,
    fun s => ?_⟩
  · intro wanted unasked
    have wants : s.tokensWanted = wanted := by
      unfold State.tokensWanted
      refine congrArg (fun l : List Socket => min s.prof.maxTokens l.length) (List.filter_congr fun i _ => ?_)
      rw [Bool.eq_iff_iff]
      simp
    rw [tokenCheck_eq, wants]
    refine ⟨fun few => ?_, fun enough => ?_, fun many pending => ?_, fun many rest free => ?_, fun many rest used => ?_⟩
    · rw [if_pos few]
      rfl
    · rw [if_neg (by omega), if_pos enough]
      rfl
    · rw [if_neg (by omega), if_neg (by omega), if_pos pending]
      rfl
    · rw [if_neg (by omega), if_neg (by omega), if_neg (by rw [rest]; decide), if_pos free]
      rfl
    · rw [if_neg (by omega), if_neg (by omega), if_neg (by rw [rest]; decide), if_neg (Nat.not_lt.2 used)]
      rfl
  · intro checked
    have rcu : checked.rcu = s.rcu := by
      show s.dropIneligible.tokenCheck.rcu = _
      rw [tokenCheck_rcu]
      rfl
    have marked : s.heatMark before =
        if checked.rcu.sub ≠ before ∧ checked.rcu.sub.any SubState.anchors = true then checked.setAnchor else checked := if_pos active
    rw [marked, rcu]
    refine ⟨fun i => dropIneligible_heaters, fun stays => if_neg ?_, fun moves recovering none => if_pos ⟨moves, ?_⟩⟩
    · rintro ⟨moves, anchors⟩
      rcases stays with e | e | e
      · exact moves e
      · rw [e] at anchors
        cases anchors
      · rw [e] at anchors
        cases anchors
    · cases sub : s.rcu.sub with
      | none => exact absurd sub none
      | some x =>
        have anchors : x ≠ .recovering := fun e => recovering (sub.trans (congrArg _ e))
        cases x with
        | recovering => exact absurd rfl anchors
        | _ => rfl
  · intro t returned
    obtain ⟨u, started, heatersOf, queue, anchor, ldr, released, kept⟩ := anchored_frame s
    have eq : t = u.startPeriod 0 := started
    obtain ⟨tokens, pending, anchor', bdu⟩ := startPeriod_tokens (s := u) (i := 0)
    rw [← eq] at tokens pending anchor' bdu
    have count : u.thu.onCount = 0 := onCount_of_stopped (fun i => by rw [heatersOf i]; rfl)
    have period : u.prof.heaterPeriod = s.prof.heaterPeriod := by unfold State.prof; rw [ldr]
    have onTime : u.thu.heaters[0].onTime = s.thu.heaters[0].onTime := by rw [show u.thu.heaters[0] = _ from heatersOf 0]; rfl
    have zeroAt (v : State) (f : Heater → Heater) : (v.modHeater 0 f).thu.heaters[0] = f v.thu.heaters[0] :=
      (State.modHeater_heaters v 0 f 0).trans (if_pos rfl)
    have latched : t.thu.heaters[0].nextStart = some (msTicks s.prof.heaterPeriod) ∧
        t.thu.heaters[0].inForce = s.thu.heaters[0].onTime ∧ t.thu.heaters[0].onTime = s.thu.heaters[0].onTime ∧
        (s.thu.heaters[0].onTime = 0 → t.thu.heaters[0].phase = .offTime ∧ t.thu.waitQueue = []) ∧
        (s.thu.heaters[0].onTime ≠ 0 → 0 < t.thu.tokens → t.thu.heaters[0].phase = .on ∧ t.thu.waitQueue = [] ∧
          t.thu.heaters[0].onLeft = some (msTicks s.thu.heaters[0].onTime)) ∧
        (s.thu.heaters[0].onTime ≠ 0 → t.thu.tokens = 0 → t.thu.heaters[0].phase = .waiting ∧ t.thu.waitQueue = [0]) := by
      rw [tokens, eq, ← period, ← onTime]
      by_cases zero : u.thu.heaters[0].onTime = 0
      · rw [startPeriod_of_zero zero, zeroAt]
        exact ⟨rfl, rfl, rfl, fun _ => ⟨rfl, queue⟩, fun some_time => absurd zero some_time,
          fun some_time => absurd zero some_time⟩
      · by_cases free : 0 < u.thu.tokens
        · rw [startPeriod_of_free zero (by rw [count]; exact free), zeroAt]
          exact ⟨rfl, rfl, rfl, fun z => absurd z zero, fun _ _ => ⟨rfl, queue, rfl⟩,
            fun _ none => absurd free (by omega)⟩
        · rw [startPeriod_of_none zero (by omega), zeroAt]
          refine ⟨rfl, rfl, rfl, fun z => absurd z zero, fun _ some_free => absurd some_free free, fun _ _ => ⟨rfl, ?_⟩⟩
          show u.thu.waitQueue ++ [0] = [0]
          rw [queue]
          rfl
    obtain ⟨nextStart, inForce, onTime', off, on, waits⟩ := latched
    refine ⟨anchor'.trans anchor, fun i other => ?_, nextStart, inForce, onTime', off, on, waits, fun back => ?_, fun stays => ?_⟩
    · rw [eq, startPeriod_heaters_other other, heatersOf i]
      rfl
    · obtain ⟨tokens', pending', bdu'⟩ := released back
      exact ⟨tokens.trans tokens', pending.trans pending', bdu.trans bdu'⟩
    · obtain ⟨tokens', pending', bdu'⟩ := kept stays
      exact ⟨tokens.trans tokens', pending.trans pending', bdu.trans bdu'⟩
  · intro t
    refine ⟨?_, fun i => ⟨?_, ?_⟩⟩
    · show (s.rcu.state == .active && s.rcu.sub == some .running && s.ptu.engine != .stopped) = true ↔ _
      simp [and_assoc]
    · show (Vector.ofFn (fun i : Socket => s.acu.records[i].state == .running))[i] = true ↔ _
      simp [State.socketState]
    · show (Vector.ofFn (fun i : Socket => s.rlu.sockets[i].closed))[i] = _
      simp

end Sys2Proof
end

section
/-! SUPPORT. A temperature reading: what it measures, the sensor streak and the trip streak (R81, R94 to R98, R100, R135, R136,
R140). -/

namespace Sys2Proof.Machine

/-! ### Bands -/

/-- A code from -80 to 430 is a valid reading (R95). -/
def validCode (code : Half) : Prop := -80 ≤ code.toInt ∧ code.toInt ≤ 430

theorem readingOf_of_valid {code : Half} (valid : validCode code) : readingOf code = some code.toInt := if_pos valid

theorem readingOf_of_invalid {code : Half} (invalid : ¬validCode code) : readingOf code = none := if_neg invalid

/-- A valid reading is not UNKNOWN (R96). -/
theorem bandOf_ne_unknown (window : Int × Int) (margin : Nat) (temp : Int) : bandOf window margin (some temp) ≠ .unknown := by
  unfold bandOf
  dsimp only
  split
  · decide
  · split
    · decide
    · split <;> decide

/-- A reading is classed as UNKNOWN exactly if it is not valid (R95, R96). -/
theorem bandOf_eq_unknown (window : Int × Int) (margin : Nat) (code : Half) :
    bandOf window margin (readingOf code) = .unknown ↔ ¬validCode code := by
  by_cases valid : validCode code
  · rw [readingOf_of_valid valid]
    exact ⟨fun unknown => absurd unknown (bandOf_ne_unknown window margin _), fun no => absurd valid no⟩
  · rw [readingOf_of_invalid valid]
    exact ⟨fun _ => valid, fun _ => rfl⟩

/-- A reading is classed as TRIP exactly if it is valid and above the window by more than the margin (R96). -/
theorem bandOf_eq_trip (window : Int × Int) (margin : Nat) (code : Half) :
    bandOf window margin (readingOf code) = .trip ↔
      validCode code ∧ window.1 ≤ code.toInt ∧ window.2 < code.toInt ∧ window.2 + 2 * margin < code.toInt := by
  by_cases valid : validCode code
  · rw [readingOf_of_valid valid]
    unfold bandOf
    dsimp only
    split
    · exact ⟨nofun, fun h => by omega⟩
    · split
      · exact ⟨nofun, fun h => by omega⟩
      · split
        · exact ⟨nofun, fun h => by omega⟩
        · exact ⟨fun _ => ⟨valid, by omega, by omega, by omega⟩, fun _ => rfl⟩
  · rw [readingOf_of_invalid valid]
    exact ⟨nofun, fun h => absurd h.1 valid⟩

section
variable {s : State} {i : Socket}

/-! ### What an operation on the heaters leaves of the readings -/

/-- The readings of the heaters, and the finding of the mark scan, are left as they are (R94 to R98). -/
def SameReadings (s t : State) : Prop :=
  (∀ j : Socket, t.thu.heaters[j].band = s.thu.heaters[j].band ∧ t.thu.heaters[j].lastTemp = s.thu.heaters[j].lastTemp ∧
    t.thu.heaters[j].window = s.thu.heaters[j].window ∧ t.thu.heaters[j].sensorStreak = s.thu.heaters[j].sensorStreak) ∧
  t.thu.markScanWarm = s.thu.markScanWarm

theorem SameReadings.refl (s : State) : SameReadings s s := ⟨fun _ => ⟨rfl, rfl, rfl, rfl⟩, rfl⟩

theorem SameReadings.trans {s t u : State} (a : SameReadings s t) (b : SameReadings t u) : SameReadings s u := by
  refine ⟨fun j => ?_, b.2.trans a.2⟩
  obtain ⟨band, temp, window, streak⟩ := a.1 j
  obtain ⟨band', temp', window', streak'⟩ := b.1 j
  exact ⟨band'.trans band, temp'.trans temp, window'.trans window, streak'.trans streak⟩

/-- A change of one heater apart from its reading. -/
theorem sameReadings_modHeater (s : State) (i : Socket) (f : Heater → Heater)
    (reading : ∀ h, (f h).band = h.band ∧ (f h).lastTemp = h.lastTemp ∧ (f h).window = h.window ∧
      (f h).sensorStreak = h.sensorStreak) : SameReadings s (s.modHeater i f) := by
  refine ⟨fun j => ?_, rfl⟩
  rw [State.modHeater_heaters]
  split
  · next e => subst e; exact reading _
  · exact ⟨rfl, rfl, rfl, rfl⟩

theorem sameReadings_serveHead (s : State) : SameReadings s s.serveHead := by
  unfold State.serveHead
  split
  · exact SameReadings.refl s
  · next j rest _ =>
    exact sameReadings_modHeater { s with thu := { s.thu with waitQueue := rest } } j turnOn (fun _ => ⟨rfl, rfl, rfl, rfl⟩)

theorem sameReadings_tokenReturned (s : State) : SameReadings s s.tokenReturned := by
  unfold State.tokenReturned
  split
  · exact ⟨fun _ => ⟨rfl, rfl, rfl, rfl⟩, rfl⟩
  · exact sameReadings_serveHead s

theorem sameReadings_endHeating (s : State) (i : Socket) : SameReadings s (s.endHeating i) := by
  have off : SameReadings s (s.modHeater i turnOff) := sameReadings_modHeater s i turnOff (fun _ => ⟨rfl, rfl, rfl, rfl⟩)
  unfold State.endHeating
  split
  · exact off.trans (sameReadings_tokenReturned _)
  · exact off.trans ⟨fun _ => ⟨rfl, rfl, rfl, rfl⟩, rfl⟩
  · exact SameReadings.refl s

theorem sameReadings_forceOff (s : State) (i : Socket) : SameReadings s (s.forceOff i) :=
  (sameReadings_modHeater s i (fun h => { h with onTime := 0, inForce := 0 }) (fun _ => ⟨rfl, rfl, rfl, rfl⟩)).trans
    (sameReadings_endHeating _ i)

/-- A heater's trip streak is not moved by an end of heating (R97, R100). -/
theorem serveHead_tripStreak (s : State) (j : Socket) : s.serveHead.thu.heaters[j].tripStreak = s.thu.heaters[j].tripStreak := by
  unfold State.serveHead
  split
  · rfl
  · rw [State.modHeater_heaters]
    split
    · next e => subst e; rfl
    · rfl

theorem forceOff_tripStreak (s : State) (i j : Socket) : (s.forceOff i).thu.heaters[j].tripStreak = s.thu.heaters[j].tripStreak := by
  have kept (u : State) (f : Heater → Heater) (keeps : ∀ h, (f h).tripStreak = h.tripStreak) :
      (u.modHeater i f).thu.heaters[j].tripStreak = u.thu.heaters[j].tripStreak := by
    rw [State.modHeater_heaters]
    split
    · next e => subst e; exact keeps _
    · rfl
  have zeroed := kept s (fun h => { h with onTime := 0, inForce := 0 }) (fun _ => rfl)
  unfold State.forceOff State.endHeating
  generalize s.modHeater i (fun h => { h with onTime := 0, inForce := 0 }) = u at zeroed
  rw [← zeroed, ← kept u turnOff (fun _ => rfl)]
  split
  · unfold State.tokenReturned
    split
    · rfl
    · exact serveHead_tripStreak _ j
  · rfl
  · exact (kept u turnOff (fun _ => rfl)).symm

/-- The loss of a socket moves no reading. -/
theorem sameReadings_failSocket (s : State) (i : Socket) (kind : FailKind) (finding : Finding) :
    SameReadings s (s.failSocket i kind finding) := by
  have written : SameReadings s (s.writeSocketEntry i finding true) := by
    unfold State.writeSocketEntry
    rw [writeEntry_acu]
    exact ⟨fun _ => ⟨rfl, rfl, rfl, rfl⟩, rfl⟩
  rw [failSocket_eq]
  refine written.trans ?_
  generalize s.writeSocketEntry i finding true = u
  unfold State.failed State.dropSocket
  have dropped : SameReadings u ((((u.modRecord i (fun r => r.fail kind u.rcu.phase)).modPower i openPower).forceOff i).modHeater
      i noTrips) := by
    refine SameReadings.trans ?_ (sameReadings_modHeater _ i noTrips (fun _ => ⟨rfl, rfl, rfl, rfl⟩))
    exact SameReadings.trans ⟨fun _ => ⟨rfl, rfl, rfl, rfl⟩, rfl⟩ (sameReadings_forceOff _ i)
  exact dropped.trans ⟨fun _ => ⟨rfl, rfl, rfl, rfl⟩, rfl⟩

/-! ### The reading taken -/

/-- A place of a vector of the sockets after one place is written. -/
theorem set_getElem {α : Type} (v : Vector α 16) (i j : Socket) (x : α) : (v.set i x)[j] = if i = j then x else v[j] := by
  by_cases e : i = j
  · subst e
    simp
  · have apart : (i : Nat) ≠ j := fun e' => e (Fin.ext e')
    simp [Vector.getElem_set_ne, apart, e]

/-- The reading at the THU, in the record and at the socket gate (R95, R109, R136, R140). -/
theorem postBand_eq (s : State) (i : Socket) (reading : Option Int) (band : Band) : s.postBand i reading band = { s with
    thu := { s.thu with heaters := s.thu.heaters.set i (takeReading reading band s.window s.thu.heaters[i]) }
    acu := { s.acu with
      records := s.acu.records.set i (s.acu.records[i].measure (reading.getD s.thu.heaters[i].lastTemp) band)
      socketGate := if band = .window then s.acu.socketGate else s.acu.socketGate.set i false } } := by
  have taken : (s.modHeater i (takeReading reading band s.window)).thu.heaters[i].lastTemp =
      reading.getD s.thu.heaters[i].lastTemp := by
    rw [State.modHeater_heaters, if_pos rfl]
    rfl
  unfold State.postBand
  dsimp only
  rw [taken]
  split <;> rfl

/-- The finding of a mark scan (R94). -/
theorem noteWarm_eq (s : State) (i : Socket) (band : Band) : s.noteWarm i band = { s with
    thu := { s.thu with markScanWarm := s.thu.markScanWarm ||
      (s.scanner.scan == some .mark && (s.socketState i).powered && band == .warm) } } := by
  unfold State.noteWarm
  by_cases warm : s.scanner.scan = some .mark ∧ (s.socketState i).powered = true ∧ band = .warm
  · obtain ⟨mark, powered, warm'⟩ := warm
    rw [if_pos ⟨mark, powered, warm'⟩, mark, powered, warm']
    simp
  · rw [if_neg warm]
    have quiet : (s.scanner.scan == some .mark && (s.socketState i).powered && band == .warm) = false := by
      rw [Bool.eq_false_iff]
      intro h
      rw [Bool.and_eq_true, Bool.and_eq_true, beq_iff_eq, beq_iff_eq] at h
      exact warm ⟨h.1.1, h.1.2, h.2⟩
    rw [quiet, Bool.or_false]

/-- The reading counts as a sensor fault (R98). -/
def State.faults (s : State) (i : Socket) (band : Band) : Prop :=
  band = .unknown ∧ s.socketState i ≠ .excluded ∧ s.socketState i ≠ .failed

/-- The sensor streak and its entry (R98). -/
theorem judgeSensor_of_faults {code : Half} {band : Band} (faults : s.faults i band) : s.judgeSensor i code band = { s with
    thu := { s.thu with heaters := s.thu.heaters.set i (sensorFault s.thu.heaters[i]) }
    acu := if s.thu.heaters[i].sensorStreak = 0 then (s.writeEntry (s.entryOf i (.sensor code) false)).acu else s.acu } := by
  obtain ⟨unknown, included, unfailed⟩ := faults
  unfold State.judgeSensor
  rw [if_neg (fun h => h.elim included (fun h => h.elim unfailed (fun h => h unknown)))]
  dsimp only
  split
  · unfold State.writeSocketEntry
    rw [writeEntry_acu]
    have same : ((s.modHeater i sensorFault).writeEntry (s.entryOf i (.sensor code) false)).acu =
        (s.writeEntry (s.entryOf i (.sensor code) false)).acu := by
      unfold State.writeEntry
      rw [State.modHeater_acu]
      split <;> rfl
    exact congrArg (fun a : Acu => ({ s.modHeater i sensorFault with acu := a } : State)) same
  · rfl

theorem judgeSensor_of_clear {code : Half} {band : Band} (clear : ¬s.faults i band) : s.judgeSensor i code band =
    s.modHeater i noSensorFault := by
  unfold State.judgeSensor
  refine if_pos ?_
  by_cases excluded : s.socketState i = .excluded
  · exact .inl excluded
  · by_cases failed : s.socketState i = .failed
    · exact .inr (.inl failed)
    · exact .inr (.inr (fun unknown => clear ⟨unknown, excluded, failed⟩))

/-- The band of a code in the window in force (R95, R96). -/
def State.bandNow (s : State) (code : Half) : Band := bandOf s.window s.prof.tripMargin (readingOf code)

/-- The state with its reading taken, before the trip streak is judged (R94 to R98). -/
def State.measuredAt (s : State) (i : Socket) (code : Half) : State :=
  ((s.postBand i (readingOf code) (s.bandNow code)).noteWarm i (s.bandNow code)).judgeSensor i code (s.bandNow code)

/-- What taking a reading leaves and what it writes, the trip streak apart (R81, R94 to R98, R109, R136, R140). -/
structure Measured (s q : State) (i : Socket) (code : Half) : Prop where
  rcu : q.rcu = s.rcu
  biu : q.biu = s.biu
  bdu : q.bdu = s.bdu
  rlu : q.rlu = s.rlu
  scanner : q.scanner = s.scanner
  ldr : q.ldr = s.ldr
  pool : q.thu.tokens = s.thu.tokens ∧ q.thu.waitQueue = s.thu.waitQueue
  phases : ∀ j : Socket, q.thu.heaters[j].phase = s.thu.heaters[j].phase
  heater : q.thu.heaters[i] = { s.thu.heaters[i] with
    band := s.bandNow code, lastTemp := (readingOf code).getD s.thu.heaters[i].lastTemp, window := s.window
    sensorStreak := q.thu.heaters[i].sensorStreak }
  faulty : s.faults i (s.bandNow code) → q.thu.heaters[i].sensorStreak = min 255 (s.thu.heaters[i].sensorStreak + 1)
  clear : ¬s.faults i (s.bandNow code) → q.thu.heaters[i].sensorStreak = 0
  warm : q.thu.markScanWarm = (s.thu.markScanWarm ||
    (s.scanner.scan == some .mark && (s.socketState i).powered && s.bandNow code == .warm))
  record : q.acu.records[i] = s.acu.records[i].measure ((readingOf code).getD s.thu.heaters[i].lastTemp) (s.bandNow code)
  gate : q.acu.socketGate = if s.bandNow code = .window then s.acu.socketGate else s.acu.socketGate.set i false
  entry : s.faults i (s.bandNow code) → s.thu.heaters[i].sensorStreak = 0 →
    s.takesEntry q (s.entryOf i (.sensor code) false)
  noEntry : ¬(s.faults i (s.bandNow code) ∧ s.thu.heaters[i].sensorStreak = 0) →
    q.acu.history = s.acu.history ∧ q.acu.overflow = s.acu.overflow

/-- The wait queue stays in order where no phase moves (R104). -/
theorem Measured.queueMatches {s q : State} {i : Socket} {code : Half} (m : Measured s q i code) (h : s.queueMatches) :
    q.queueMatches := by
  obtain ⟨nodup, mem⟩ := h
  unfold State.queueMatches
  rw [m.pool.2]
  exact ⟨nodup, fun j => by rw [m.phases j]; exact mem j⟩

/-- The reading at the THU, in the record, at the gate and with the mark scan's finding (R94, R95, R136, R140). -/
theorem noteWarm_postBand (s : State) (i : Socket) (reading : Option Int) (band : Band) :
    (s.postBand i reading band).noteWarm i band = { s with
      thu := { s.thu with
        heaters := s.thu.heaters.set i (takeReading reading band s.window s.thu.heaters[i])
        markScanWarm := s.thu.markScanWarm || (s.scanner.scan == some .mark && (s.socketState i).powered && band == .warm) }
      acu := { s.acu with
        records := s.acu.records.set i (s.acu.records[i].measure (reading.getD s.thu.heaters[i].lastTemp) band)
        socketGate := if band = .window then s.acu.socketGate else s.acu.socketGate.set i false } } := by
  have state : (s.modRecord i (SocketRecord.measure (reading.getD s.thu.heaters[i].lastTemp) band)).socketState i =
      s.socketState i := by
    unfold State.socketState
    rw [State.modRecord_records, if_pos rfl]
    rfl
  rw [noteWarm_eq, postBand_eq]
  exact congrArg (fun st : SocketState => ({ s with
    thu := { s.thu with
      heaters := s.thu.heaters.set i (takeReading reading band s.window s.thu.heaters[i])
      markScanWarm := s.thu.markScanWarm || (s.scanner.scan == some .mark && st.powered && band == .warm) }
    acu := { s.acu with
      records := s.acu.records.set i (s.acu.records[i].measure (reading.getD s.thu.heaters[i].lastTemp) band)
      socketGate := if band = .window then s.acu.socketGate else s.acu.socketGate.set i false } } : State)) state

theorem measuredAt_spec (s : State) (i : Socket) (code : Half) : Measured s (s.measuredAt i code) i code := by
  unfold State.measuredAt
  have hp := noteWarm_postBand s i (readingOf code) (s.bandNow code)
  generalize (s.postBand i (readingOf code) (s.bandNow code)).noteWarm i (s.bandNow code) = p at hp
  replace hp := hp.symm
  have heaterOf : p.thu.heaters[i] = takeReading (readingOf code) (s.bandNow code) s.window s.thu.heaters[i] := by
    rw [← hp]
    exact (set_getElem _ i i _).trans (if_pos rfl)
  have recordOf : p.acu.records[i] =
      s.acu.records[i].measure ((readingOf code).getD s.thu.heaters[i].lastTemp) (s.bandNow code) := by
    rw [← hp]
    exact (set_getElem _ i i _).trans (if_pos rfl)
  have heaterAt (j : Socket) (apart : ¬i = j) : p.thu.heaters[j] = s.thu.heaters[j] := by
    rw [← hp]
    exact (set_getElem _ i j _).trans (if_neg apart)
  have phaseOf (j : Socket) : p.thu.heaters[j].phase = s.thu.heaters[j].phase := by
    by_cases e : i = j
    · subst e
      rw [heaterOf]
      rfl
    · rw [heaterAt j e]
  have entryNow : p.entryOf i (.sensor code) false = s.entryOf i (.sensor code) false := by
    unfold State.entryOf
    rw [recordOf, ← hp]
    rfl
  have stateNow : p.socketState i = s.socketState i := by
    unfold State.socketState
    rw [recordOf]
    rfl
  have same : p.faults i (s.bandNow code) ↔ s.faults i (s.bandNow code) := by
    unfold State.faults
    rw [stateNow]
  have frame : p = { s with thu := { s.thu with heaters := p.thu.heaters, markScanWarm := p.thu.markScanWarm }, acu := p.acu } := by
    rw [← hp]
  have warm : p.thu.markScanWarm = (s.thu.markScanWarm ||
      (s.scanner.scan == some .mark && (s.socketState i).powered && s.bandNow code == .warm)) := by rw [← hp]
  have gate : p.acu.socketGate = if s.bandNow code = .window then s.acu.socketGate else s.acu.socketGate.set i false := by
    rw [← hp]
  have ledger : p.acu.history = s.acu.history ∧ p.acu.overflow = s.acu.overflow := by rw [← hp]; exact ⟨rfl, rfl⟩
  have moved (f : Heater → Heater) (reading : ∀ h, f h = { h with sensorStreak := (f h).sensorStreak }) (acu : Acu)
      (records : acu.records = p.acu.records) (gate' : acu.socketGate = p.acu.socketGate) :
      let q : State := { p with thu := { p.thu with heaters := p.thu.heaters.set i (f p.thu.heaters[i]) }, acu := acu }
      (s.faults i (s.bandNow code) → (f p.thu.heaters[i]).sensorStreak = min 255 (s.thu.heaters[i].sensorStreak + 1)) →
      (¬s.faults i (s.bandNow code) → (f p.thu.heaters[i]).sensorStreak = 0) →
      (s.faults i (s.bandNow code) → s.thu.heaters[i].sensorStreak = 0 →
        s.takesEntry q (s.entryOf i (.sensor code) false)) →
      (¬(s.faults i (s.bandNow code) ∧ s.thu.heaters[i].sensorStreak = 0) →
        q.acu.history = s.acu.history ∧ q.acu.overflow = s.acu.overflow) →
      Measured s q i code := by
    intro q faulty clear entry noEntry
    have heaterNow : q.thu.heaters[i] = f p.thu.heaters[i] :=
      (set_getElem _ i i _).trans (if_pos rfl)
    refine ⟨?_, ?_, ?_, ?_, ?_, ?_, ⟨?_, ?_⟩, fun j => ?_, ?_, ?_, ?_, warm, ?_, gate'.trans gate, entry, noEntry⟩
    · show p.rcu = _; rw [← hp]
    · show p.biu = _; rw [← hp]
    · show p.bdu = _; rw [← hp]
    · show p.rlu = _; rw [← hp]
    · show p.scanner = _; rw [← hp]
    · show p.ldr = _; rw [← hp]
    · show p.thu.tokens = _; rw [← hp]
    · show p.thu.waitQueue = _; rw [← hp]
    · by_cases e : i = j
      · subst e
        rw [heaterNow, reading]
        exact phaseOf i
      · have apart : q.thu.heaters[j] = p.thu.heaters[j] :=
          (set_getElem _ i j _).trans (if_neg e)
        rw [apart]
        exact phaseOf j
    · rw [heaterNow, reading]
      rw [heaterOf]
      rfl
    · rw [heaterNow]
      exact faulty
    · rw [heaterNow]
      exact clear
    · show acu.records[i] = _
      rw [records]
      exact recordOf
  by_cases faults : s.faults i (s.bandNow code)
  · rw [judgeSensor_of_faults (same.2 faults), entryNow]
    have streakOf : p.thu.heaters[i].sensorStreak = s.thu.heaters[i].sensorStreak := by rw [heaterOf]; rfl
    have taken := writeEntry_takesEntry p (s.entryOf i (.sensor code) false)
    unfold State.takesEntry at taken
    rw [ledger.1, ledger.2] at taken
    refine moved sensorFault (fun _ => rfl) _ ?_ ?_ (fun _ => ?_) (fun no => absurd faults no) (fun _ zero => ?_) (fun no => ?_)
    · split
      · exact State.writeEntry_records ..
      · rfl
    · split
      · exact State.writeEntry_socketGate ..
      · rfl
    · show min 255 (p.thu.heaters[i].sensorStreak + 1) = _
      rw [streakOf]
    · rw [if_pos (streakOf.trans zero)]
      exact taken
    · have nonzero : ¬p.thu.heaters[i].sensorStreak = 0 := fun zero => no ⟨faults, streakOf.symm.trans zero⟩
      rw [if_neg nonzero]
      exact ledger
  · rw [judgeSensor_of_clear (fun h => faults (same.1 h))]
    exact moved noSensorFault (fun _ => rfl) p.acu rfl rfl (fun yes => absurd yes faults) (fun _ => rfl)
      (fun yes => absurd yes faults) (fun _ => ledger)

/-! ### The trip streak -/

/-- A TRIP reading of a powered socket (R97). -/
def State.overheats (s : State) (i : Socket) (band : Band) : Prop := (s.socketState i).powered = true ∧ band = .trip

/-- The trip streak and what it does: the first TRIP reading of a powered socket turns its heater off, the second fails it
(R97, R100, R135). -/
theorem judgeTrip_spec (s : State) (i : Socket) (reading : Option Int) (band : Band) :
    let t := s.judgeTrip i reading band
    SameReadings s t ∧ t.rcu = s.rcu ∧ t.biu = s.biu ∧ t.scanner = s.scanner ∧
    t.acu.records[i].band = s.acu.records[i].band ∧ t.acu.records[i].lastTemp = s.acu.records[i].lastTemp ∧
    (t.acu.socketGate[i] = s.acu.socketGate[i] ∨ (band = .trip ∧ t.acu.socketGate[i] = false)) ∧
    (¬s.overheats i band → t.acu = s.acu ∧ t.thu.heaters[i] = noTrips s.thu.heaters[i] ∧ t.rlu = s.rlu ∧ t.bdu = s.bdu) ∧
    (s.overheats i band → t.thu.heaters[i].onTime = 0 ∧ (s.queueMatches → t.heaterLine i = false) ∧
      (s.thu.heaters[i].tripStreak = 0 → t.thu.heaters[i].tripStreak = 1 ∧ t.acu = s.acu ∧ t.rlu = s.rlu) ∧
      (s.thu.heaters[i].tripStreak ≠ 0 → s.failsSocket t i .thermal (.thermal (reading.getD 0)))) := by
  intro t
  by_cases hot : s.overheats i band
  · by_cases first : s.thu.heaters[i].tripStreak = 0
    · have eq : t = (s.modHeater i oneTrip).forceOff i := (if_pos hot).trans (if_pos first)
      obtain ⟨onTime, inForce, off, tokens, bdu, ptu, rcu, biu, scanner, ldr⟩ := forceOff_heater (s.modHeater i oneTrip) i
      have readings : SameReadings s t := by
        rw [eq]
        exact (sameReadings_modHeater s i oneTrip (fun _ => ⟨rfl, rfl, rfl, rfl⟩)).trans (sameReadings_forceOff _ i)
      have acu : t.acu = s.acu := by rw [eq]; exact forceOff_records _ i
      have rlu : t.rlu = s.rlu := by rw [eq]; exact forceOff_rlu _ i
      have streak : t.thu.heaters[i].tripStreak = 1 := by
        rw [eq, forceOff_tripStreak, State.modHeater_heaters, if_pos rfl]
        rfl
      have order (h : s.queueMatches) : (s.modHeater i oneTrip).queueMatches := by
        obtain ⟨nodup, mem⟩ := h
        refine ⟨nodup, fun j => ?_⟩
        rw [phase_modHeater]
        split
        · next e => subst e; exact mem _
        · exact mem j
      rw [← eq] at onTime off rcu biu scanner
      refine ⟨readings, rcu, biu, scanner, by rw [acu], by rw [acu], .inl (by rw [acu]), fun cool => absurd hot cool,
        fun _ => ⟨onTime, fun h => beq_eq_false_iff_ne.2 (off (order h)), fun _ => ⟨streak, acu, rlu⟩, fun no => absurd first no⟩⟩
    · have eq : t = s.failSocket i .thermal (.thermal (reading.getD 0)) := (if_pos hot).trans (if_neg first)
      have fails := failSocket_fails s i .thermal (.thermal (reading.getD 0))
      have readings := sameReadings_failSocket s i .thermal (.thermal (reading.getD 0))
      rw [← eq] at fails readings
      obtain ⟨⟨_, line, onTime, _, _, _, _, _, gate, _, _, _, rcu, biu, scanner, _⟩, _, _, record, _⟩ := id fails
      refine ⟨readings, rcu, biu, scanner, by rw [record], by rw [record], .inr ⟨hot.2, ?_⟩, fun cool => absurd hot cool,
        fun _ => ⟨onTime, line, fun z => absurd z first, fun _ => fails⟩⟩
      rw [gate]
      exact (set_getElem _ i i _).trans (if_pos rfl)
  · have eq : t = s.modHeater i noTrips := if_neg hot
    rw [eq]
    exact ⟨sameReadings_modHeater s i noTrips (fun _ => ⟨rfl, rfl, rfl, rfl⟩), rfl, rfl, rfl, rfl, rfl, .inl rfl,
      fun _ => ⟨rfl, (State.modHeater_heaters s i noTrips i).trans (if_pos rfl), rfl, rfl⟩, fun h => absurd h hot⟩

end

end Sys2Proof.Machine

namespace Sys2Proof

open Machine

/-- Settles O40: the reading is taken first, then its trip streak is judged. -/
theorem temperatureReadingIsJudged : Obligations.TemperatureReadingIsJudged := by
  refine ⟨fun s => ⟨fun e early entry => ?_, fun e late entry => ?_, fun late entry => ?_⟩, fun s i code due order => ?_⟩
  · unfold State.window
    dsimp only
    rw [if_pos early, entry]
  · unfold State.window
    dsimp only
    rw [if_neg late, entry]
  · unfold State.window
    dsimp only
    rw [if_neg late, entry]
  intro valid hot powered streak counts
  generalize hu : ({ s.handed with scanner := { s.handed.scanner with channel := i.val + 1 } } : State) = u
  have m := measuredAt_spec u i code
  have judged := judgeTrip_spec (u.measuredAt i code) i (readingOf code) (u.bandNow code)
  have taken : exec (.temperatureReading i code) s =
      .next ((u.measuredAt i code).judgeTrip i (readingOf code) (u.bandNow code)) := by
    rw [← hu]
    exact congrArg Host.Outcome.next (handOver_ending _ due)
  generalize u.measuredAt i code = q at m judged taken
  generalize q.judgeTrip i (readingOf code) (u.bandNow code) = t at judged taken
  have inOrder : q.queueMatches := m.queueMatches (by rw [← hu]; exact order)
  have same : u.rcu = s.rcu ∧ u.biu = s.biu ∧ u.bdu = s.bdu ∧ u.rlu = s.rlu ∧ u.thu = s.thu ∧ u.acu = s.acu ∧
      u.window = s.window ∧ u.prof = s.prof ∧ u.scanner.scan = s.scanner.scan ∧ u.scanner.channel = i.val + 1 ∧
      u.scanner.converting = none := by
    rw [← hu]
    exact ⟨rfl, rfl, rfl, rfl, rfl, rfl, rfl, rfl, rfl, rfl, rfl⟩
  obtain ⟨rcu, biu, bdu, rlu, thu, acu, window, prof, scan, channel, converting⟩ := same
  have stateOf : u.socketState i = s.socketState i := by unfold State.socketState; rw [acu]
  have qState : q.socketState i = s.socketState i := by
    unfold State.socketState
    rw [m.record, acu]
    rfl
  have unknown : u.bandNow code = .unknown ↔ ¬valid := bandOf_eq_unknown ..
  have tripped : u.bandNow code = .trip ↔ hot := by
    unfold State.bandNow
    rw [window, prof]
    exact bandOf_eq_trip ..
  have faults : u.faults i (u.bandNow code) ↔ counts := by
    unfold State.faults
    rw [unknown, stateOf]
  have overheats : q.overheats i (u.bandNow code) ↔ powered ∧ hot := by
    unfold State.overheats
    rw [tripped, qState]
  have entry : u.entryOf i (.sensor code) false = s.entryOf i (.sensor code) false := by
    unfold State.entryOf
    rw [rcu, biu, acu]
  obtain ⟨⟨readings, warm⟩, rcuT, biuT, scannerT, bandR, tempR, gateT, cool, trips⟩ := judged
  obtain ⟨band, temp, windowT, streakT⟩ := readings i
  have mh := m.heater
  have bandT : t.thu.heaters[i].band = u.bandNow code := by rw [band, mh]
  have tempT : t.thu.heaters[i].lastTemp = (readingOf code).getD s.thu.heaters[i].lastTemp := by rw [temp, mh, thu]
  have gateAt : q.acu.socketGate[i] = if u.bandNow code = .window then s.acu.socketGate[i] else false := by
    rw [m.gate, acu]
    split
    · rfl
    · exact (set_getElem _ i i _).trans (if_pos rfl)
  have streakNow : t.thu.heaters[i].sensorStreak = if valid ∨ s.socketState i = .excluded ∨ s.socketState i = .failed then 0
      else min 255 (streak + 1) := by
    rw [streakT]
    by_cases c : counts
    · rw [m.faulty (faults.2 c), thu, if_neg]
      rintro (ok | excluded | failed)
      · exact c.1 ok
      · exact c.2.1 excluded
      · exact c.2.2 failed
    · rw [m.clear (fun f => c (faults.1 f)), if_pos]
      by_contra none
      rw [not_or, not_or] at none
      exact c none
  have qLedger : ¬(counts ∧ streak = 0) → q.acu.history = s.acu.history := fun no => by
    rw [← acu]
    exact (m.noEntry (fun ⟨f, zero⟩ => no ⟨faults.1 f, by rw [thu] at zero; exact zero⟩)).1
  refine ⟨t, taken, ?_, ?_, ?_, ?_, rcuT.trans (m.rcu.trans rcu), biuT.trans (m.biu.trans biu), ?_, fun ok => ?_, fun bad => ?_,
    fun inWindow => ?_, fun outside => ?_, ?_, streakNow, fun c zero room => ?_, fun quiet calm => ?_, fun calm => ?_,
    fun on isHot => ?_⟩
  · rw [bandR, m.record, bandT]
    rfl
  · rw [tempR, m.record, tempT, thu]
    rfl
  · rw [scannerT, m.scanner, channel]
  · rw [scannerT, m.scanner, converting]
  · rw [windowT, mh, window]
  · have read : readingOf code = some code.toInt := readingOf_of_valid ok
    have bandIs : t.thu.heaters[i].band = bandOf s.window s.prof.tripMargin (some code.toInt) := by
      rw [bandT, ← read, ← window, ← prof]
      rfl
    rw [bandIs]
    refine ⟨by rw [tempT, read]; rfl, fun low => if_pos low,
      fun low high => (if_neg (Int.not_lt.2 low)).trans (if_pos high),
      fun low high near => (if_neg (Int.not_lt.2 low)).trans ((if_neg (Int.not_le.2 high)).trans (if_pos near)), fun isHot => ?_⟩
    obtain ⟨_, low, high, far⟩ := isHot
    exact (if_neg (Int.not_lt.2 low)).trans ((if_neg (Int.not_le.2 high)).trans (if_neg (Int.not_le.2 far)))
  · have read : readingOf code = none := readingOf_of_invalid bad
    exact ⟨by rw [tempT, read]; rfl, by rw [bandT]; exact unknown.2 bad⟩
  · rw [bandT] at inWindow
    rcases gateT with kept | ⟨trip, _⟩
    · rw [kept, gateAt, if_pos inWindow]
    · exact absurd (inWindow.symm.trans trip) (by decide)
  · rw [bandT] at outside
    rcases gateT with kept | ⟨_, closed⟩
    · rw [kept, gateAt, if_neg outside]
    · exact closed
  · rw [warm, m.warm, bandT, thu, scan, stateOf]
  · have cold : ¬q.overheats i (u.bandNow code) := fun h => c.1 (overheats.1 h).2.1
    have stored := m.entry (faults.2 c) (by rw [thu]; exact zero)
    rw [(cool cold).1]
    unfold State.takesEntry at stored
    rw [acu, entry] at stored
    exact (stored.1 room).1
  · by_cases warmed : q.overheats i (u.bandNow code)
    · have first : q.thu.heaters[i].tripStreak = 0 := by
        by_contra again
        rw [mh, thu] at again
        exact calm ⟨(overheats.1 warmed).1, (overheats.1 warmed).2, again⟩
      rw [((trips warmed).2.2.1 first).2.1, qLedger quiet]
    · rw [(cool warmed).1, qLedger quiet]
  · obtain ⟨acuT, heaterT, rluT, bduT⟩ := cool (fun h => calm (overheats.1 h))
    rw [heaterT, rluT, bduT, m.rlu, m.bdu, rlu, bdu]
    refine ⟨rfl, ?_, ?_, ?_, rfl, rfl⟩
    · show t.acu.records[i].state = _
      rw [acuT]
      exact qState
    · show q.thu.heaters[i].onTime = _
      rw [mh, thu]
    · show q.thu.heaters[i].phase = _
      rw [m.phases, thu]
  · obtain ⟨onTime, line, first, second⟩ := trips (overheats.2 ⟨on, isHot⟩)
    have streakOf : q.thu.heaters[i].tripStreak = s.thu.heaters[i].tripStreak := by rw [mh, thu]
    rw [streakOf] at first second
    refine ⟨line inOrder, onTime, fun zero => ?_, fun again => ?_⟩
    · obtain ⟨one, acuT, rluT⟩ := first zero
      refine ⟨one, ?_, rluT.trans (m.rlu.trans rlu)⟩
      show t.acu.records[i].state = _
      rw [acuT]
      exact qState
    · obtain ⟨⟨_, _, _, _, trip, _⟩, power, _, record, stored⟩ := second again
      have read : readingOf code = some code.toInt := readingOf_of_valid isHot.1
      have creditOf : q.acu.records[i].creditAt q.rcu.phase = s.acu.records[i].creditAt s.rcu.phase := by
        rw [m.record, m.rcu, acu, rcu]
        rfl
      have final : q.entryOf i (.thermal ((readingOf code).getD 0)) true =
          { finding := .thermal code.toInt, final := true, socket := some i, phase := s.rcu.phase
            round := s.biu.roundNumber, credit := some (s.acu.records[i].creditAt s.rcu.phase) } := by
        unfold State.entryOf
        rw [creditOf, m.rcu, m.biu, rcu, biu, read]
        rfl
      refine ⟨trip, ?_, power, ?_, fun room => ?_⟩
      · show t.acu.records[i].state = _
        rw [record]
      · rw [record, creditOf, m.rcu, rcu]
      · have quiet : q.acu.history = s.acu.history := qLedger (fun c => c.1.1 isHot.1)
        unfold State.takesEntry at stored
        rw [quiet, final] at stored
        exact (stored.1 room).1

end Sys2Proof
end

section
/-! SUPPORT. The completion of a temperature scan: the on-times regulated socket by socket, and the tokens that forced heaters
return (R81, R94, R99, R100, R104, R109). -/

namespace Sys2Proof.Machine

/-- A heater that loses its on-times (R100). -/
def zeroed (h : Heater) : Heater := { h with onTime := 0, inForce := 0 }

/-- A heater that loses its on-times and stops heating (R100). -/
def quenched (h : Heater) : Heater := turnOff (zeroed h)

section
variable {s : State} {i : Socket}

/-! ### Forcing one heater off -/

theorem zeroed_phase : (s.modHeater i zeroed).thu.heaters[i].phase = s.thu.heaters[i].phase := by
  rw [State.modHeater_heaters, if_pos rfl]
  rfl

/-- An ON heater forced off returns its token (R100, R104). -/
theorem forceOff_of_on (on : s.thu.heaters[i].phase = .on) : s.forceOff i = (s.modHeater i quenched).tokenReturned := by
  show (s.modHeater i zeroed).endHeating i = _
  rw [endHeating_of_on (zeroed_phase.trans on), modHeater_modHeater]
  rfl

/-- Under a pending release the token is released (R104). -/
theorem forceOff_of_pending (on : s.thu.heaters[i].phase = .on) (pending : s.thu.releasePending = true) :
    s.forceOff i = (s.modHeater i quenched).releaseToken :=
  (forceOff_of_on on).trans (tokenReturned_of_pending (s := s.modHeater i quenched) pending)

/-- Otherwise it goes to the head of the wait queue (R104). -/
theorem forceOff_of_served {j : Socket} {rest : List Socket} (on : s.thu.heaters[i].phase = .on)
    (free : s.thu.releasePending = false) (queue : s.thu.waitQueue = j :: rest) :
    s.forceOff i =
      State.modHeater { s.modHeater i quenched with thu := { (s.modHeater i quenched).thu with waitQueue := rest } } j turnOn :=
  (forceOff_of_on on).trans ((tokenReturned_of_free (s := s.modHeater i quenched) free).trans
    (serveHead_of_cons (s := s.modHeater i quenched) queue))

/-- With nobody waiting it is free (R104). -/
theorem forceOff_of_unserved (on : s.thu.heaters[i].phase = .on) (free : s.thu.releasePending = false)
    (queue : s.thu.waitQueue = []) : s.forceOff i = s.modHeater i quenched :=
  (forceOff_of_on on).trans ((tokenReturned_of_free (s := s.modHeater i quenched) free).trans
    (serveHead_of_nil (s := s.modHeater i quenched) queue))

/-- A WAITING heater forced off leaves the queue (R100, R104). -/
theorem forceOff_of_waiting (waiting : s.thu.heaters[i].phase = .waiting) :
    s.forceOff i = (s.modHeater i quenched).leaveQueue i := by
  show (s.modHeater i zeroed).endHeating i = _
  rw [endHeating_of_waiting (zeroed_phase.trans waiting), modHeater_modHeater]
  rfl

/-- Any other heater loses its on-times (R100). -/
theorem forceOff_of_still (on : s.thu.heaters[i].phase ≠ .on) (waiting : s.thu.heaters[i].phase ≠ .waiting) :
    s.forceOff i = s.modHeater i zeroed :=
  endHeating_of_still (s := s.modHeater i zeroed) (by rw [zeroed_phase]; exact on) (by rw [zeroed_phase]; exact waiting)

/-- What forcing a heater off leaves of the other blocks. -/
theorem forceOff_blocks (s : State) (i : Socket) : (s.forceOff i).rcu = s.rcu ∧ (s.forceOff i).biu = s.biu ∧
    (s.forceOff i).scanner = s.scanner ∧ (s.forceOff i).ldr = s.ldr ∧ (s.forceOff i).acu = s.acu ∧ (s.forceOff i).rlu = s.rlu := by
  obtain ⟨_, _, _, _, _, _, rcu, biu, scanner, ldr⟩ := forceOff_heater s i
  exact ⟨rcu, biu, scanner, ldr, forceOff_records s i, forceOff_rlu s i⟩

/-- Any heater's on-times, and whether it is on, after one heater is forced off (R100, R104). -/
theorem forceOff_times (s : State) (i j : Socket) :
    (s.forceOff i).thu.heaters[j].onTime = (if i = j then 0 else s.thu.heaters[j].onTime) ∧
    (s.forceOff i).thu.heaters[j].inForce = (if i = j then 0 else s.thu.heaters[j].inForce) ∧
    (i ≠ j → s.thu.heaters[j].phase = .on → (s.forceOff i).thu.heaters[j].phase = .on) := by
  have quenchedAt : (s.modHeater i quenched).thu.heaters[j].onTime = (if i = j then 0 else s.thu.heaters[j].onTime) ∧
      (s.modHeater i quenched).thu.heaters[j].inForce = (if i = j then 0 else s.thu.heaters[j].inForce) ∧
      (i ≠ j → s.thu.heaters[j].phase = .on → (s.modHeater i quenched).thu.heaters[j].phase = .on) := by
    rw [State.modHeater_heaters]
    split
    · next e => exact ⟨rfl, rfl, fun apart => absurd e apart⟩
    · exact ⟨rfl, rfl, fun _ on => on⟩
  by_cases on : s.thu.heaters[i].phase = .on
  · cases pending : s.thu.releasePending with
    | true =>
      rw [forceOff_of_pending on pending]
      exact quenchedAt
    | false =>
      cases queue : s.thu.waitQueue with
      | nil =>
        rw [forceOff_of_unserved on pending queue]
        exact quenchedAt
      | cons k rest =>
        rw [forceOff_of_served on pending queue, State.modHeater_heaters]
        split
        · next e =>
          subst e
          exact ⟨quenchedAt.1, quenchedAt.2.1, fun _ _ => rfl⟩
        · exact quenchedAt
  · by_cases waiting : s.thu.heaters[i].phase = .waiting
    · rw [forceOff_of_waiting waiting]
      exact quenchedAt
    · rw [forceOff_of_still on waiting, State.modHeater_heaters]
      split
      · next e => exact ⟨rfl, rfl, fun apart => absurd e apart⟩
      · exact ⟨rfl, rfl, fun _ on => on⟩

/-- A pending release and one heater forced off (R104): the token of an ON heater ends it, and while it still stands no heater
has been served. -/
theorem forceOff_release (s : State) (i : Socket) :
    (s.thu.releasePending = true ∧ s.thu.heaters[i].phase = .on → (s.forceOff i).thu.releasePending = false) ∧
    (¬(s.thu.releasePending = true ∧ s.thu.heaters[i].phase = .on) →
      (s.forceOff i).thu.releasePending = s.thu.releasePending) ∧
    ((s.forceOff i).thu.releasePending = true → ∀ j : Socket, (s.forceOff i).thu.heaters[j].phase = .on →
      s.thu.heaters[j].phase = .on) := by
  have noneServed (f : Heater → Heater) (off : (f s.thu.heaters[i]).phase ≠ .on) (j : Socket)
      (on : (s.modHeater i f).thu.heaters[j].phase = .on) : s.thu.heaters[j].phase = .on := by
    rw [State.modHeater_heaters] at on
    split at on
    · exact absurd on off
    · exact on
  by_cases on : s.thu.heaters[i].phase = .on
  · cases pending : s.thu.releasePending with
    | true =>
      rw [forceOff_of_pending on pending]
      exact ⟨fun _ => rfl, fun no => absurd ⟨rfl, on⟩ no, nofun⟩
    | false =>
      cases queue : s.thu.waitQueue with
      | nil =>
        rw [forceOff_of_unserved on pending queue]
        exact ⟨nofun, fun _ => pending, fun yes => absurd (pending.symm.trans yes) Bool.false_ne_true⟩
      | cons k rest =>
        rw [forceOff_of_served on pending queue]
        exact ⟨nofun, fun _ => pending, fun yes => absurd (pending.symm.trans yes) Bool.false_ne_true⟩
  · by_cases waiting : s.thu.heaters[i].phase = .waiting
    · rw [forceOff_of_waiting waiting]
      exact ⟨fun h => absurd h.2 on, fun _ => rfl, fun _ j at_j => noneServed quenched nofun j at_j⟩
    · rw [forceOff_of_still on waiting]
      exact ⟨fun h => absurd h.2 on, fun _ => rfl, fun _ j at_j => noneServed zeroed on j at_j⟩

/-! ### Regulating one socket -/

/-- The on-time that a scan completion gives a socket (R99). -/
def State.newTime (s : State) (i : Socket) : Nat :=
  if s.eligible i then (newOnTime s.prof s.thu.heaters[i]).getD 0 else s.thu.heaters[i].onTime

/-- A scan completion forces the socket's heater off (R99). -/
def State.forces (s : State) (i : Socket) : Bool := s.eligible i && (newOnTime s.prof s.thu.heaters[i]).isNone

/-- The bands that force a heater off (R99). -/
theorem forces_eq : s.forces i = (s.eligible i && (s.thu.heaters[i].band == .warm || s.thu.heaters[i].band == .trip ||
    s.thu.heaters[i].band == .unknown)) := by
  unfold State.forces newOnTime
  cases s.thu.heaters[i].band with
  | window =>
    dsimp only
    split <;> rfl
  | _ => rfl

/-- Regulation of a socket that is not forced off changes its on-time alone (R99). -/
theorem regulate_of_kept (kept : s.forces i = false) : s.regulate i = s.modHeater i (fun h => { h with onTime := s.newTime i }) := by
  unfold State.regulate State.newTime
  unfold State.forces at kept
  by_cases eligible : s.eligible i = true
  · rw [if_pos eligible]
    rw [eligible, Bool.true_and] at kept
    simp only [if_pos eligible]
    cases time : newOnTime s.prof s.thu.heaters[i] with
    | none => rw [time] at kept; cases kept
    | some t => rfl
  · rw [if_neg eligible]
    simp only [if_neg eligible]
    exact (modHeater_of_same rfl).symm

/-- Regulation of a socket that is forced off (R99, R100). -/
theorem regulate_of_forced (forced : s.forces i = true) : s.regulate i = s.forceOff i := by
  unfold State.forces at forced
  rw [Bool.and_eq_true] at forced
  unfold State.regulate
  rw [if_pos forced.1]
  cases time : newOnTime s.prof s.thu.heaters[i] with
  | none => rfl
  | some t => rw [time] at forced; cases forced.2

/-- A socket forced off is given no on-time. -/
theorem newTime_of_forced (forced : s.forces i = true) : s.newTime i = 0 := by
  unfold State.forces at forced
  rw [Bool.and_eq_true, Option.isNone_iff_eq_none] at forced
  unfold State.newTime
  rw [if_pos forced.1, forced.2]
  rfl

end

/-! ### The sockets regulated one after another -/

/-- A forced heater with a token returned one under a pending release (R104). -/
def State.returnsToken (s : State) (l : List Socket) : Prop :=
  s.thu.releasePending = true ∧ ∃ i ∈ l, s.forces i = true ∧ s.thu.heaters[i].phase = .on

/-- From `s` to `u` the sockets of `l` are regulated (R99, R100, R104): the tokens, the times and what stays on. -/
structure Regulated (s : State) (l : List Socket) (u : State) : Prop where
  rcu : u.rcu = s.rcu
  biu : u.biu = s.biu
  scanner : u.scanner = s.scanner
  ldr : u.ldr = s.ldr
  acu : u.acu = s.acu
  rlu : u.rlu = s.rlu
  readings : SameReadings s u
  onTime : ∀ i : Socket, u.thu.heaters[i].onTime = if i ∈ l then s.newTime i else s.thu.heaters[i].onTime
  inForce : ∀ i : Socket, u.thu.heaters[i].inForce = if i ∈ l ∧ s.forces i = true then 0 else s.thu.heaters[i].inForce
  staysOn : ∀ i : Socket, i ∉ l → s.thu.heaters[i].phase = .on → u.thu.heaters[i].phase = .on
  quiet : u.thu.releasePending = true → ∀ i : Socket, i ∉ l → u.thu.heaters[i].phase = .on → s.thu.heaters[i].phase = .on
  returned : s.returnsToken l → u.thu.tokens = s.thu.tokens - 1 ∧ u.thu.releasePending = false ∧
    u.bdu = { s.bdu with ownHeld := s.bdu.ownHeld - s.prof.nominal }
  kept : ¬s.returnsToken l → u.thu.tokens = s.thu.tokens ∧ u.thu.releasePending = s.thu.releasePending ∧ u.bdu = s.bdu

section
variable {s u : State} {l : List Socket} {i : Socket}

/-- What a socket's regulation reads is what it was (R99). -/
theorem Regulated.sees (r : Regulated s l u) (new : i ∉ l) :
    u.forces i = s.forces i ∧ u.newTime i = s.newTime i ∧ u.eligible i = s.eligible i := by
  obtain ⟨band, temp, window, _⟩ := r.readings.1 i
  have eligible : u.eligible i = s.eligible i := by
    unfold State.eligible State.heats State.socketState
    rw [r.rcu, r.acu]
  have onTime : u.thu.heaters[i].onTime = s.thu.heaters[i].onTime := by rw [r.onTime i, if_neg new]
  have prof : u.prof = s.prof := by unfold State.prof; rw [r.ldr]
  have time : newOnTime u.prof u.thu.heaters[i] = newOnTime s.prof s.thu.heaters[i] := by
    unfold newOnTime
    rw [band, temp, window, onTime, prof]
  refine ⟨?_, ?_, eligible⟩
  · unfold State.forces
    rw [eligible, time]
  · unfold State.newTime
    rw [eligible, time, onTime]

/-- The token returned by one more socket. -/
theorem returnsToken_concat : s.returnsToken (l ++ [i]) ↔
    s.returnsToken l ∨ (s.thu.releasePending = true ∧ s.forces i = true ∧ s.thu.heaters[i].phase = .on) := by
  unfold State.returnsToken
  constructor
  · rintro ⟨pending, j, mem, forced, on⟩
    rcases List.mem_append.1 mem with mem | mem
    · exact .inl ⟨pending, j, mem, forced, on⟩
    · rw [List.mem_singleton.1 mem] at forced on
      exact .inr ⟨pending, forced, on⟩
  · rintro (⟨pending, j, mem, forced, on⟩ | ⟨pending, forced, on⟩)
    · exact ⟨pending, j, List.mem_append_left _ mem, forced, on⟩
    · exact ⟨pending, i, by simp, forced, on⟩

/-- One more socket regulated. -/
theorem Regulated.step (r : Regulated s l u) (new : i ∉ l) : Regulated s (l ++ [i]) (u.regulate i) := by
  obtain ⟨forces, newTime, _⟩ := r.sees new
  have mem (j : Socket) : j ∈ l ++ [i] ↔ j ∈ l ∨ j = i := by simp
  cases forced : s.forces i with
  | false =>
    have moved : u.regulate i = u.modHeater i (fun h => { h with onTime := s.newTime i }) := by
      rw [regulate_of_kept (forces.trans forced), newTime]
    have same : s.returnsToken (l ++ [i]) ↔ s.returnsToken l := by
      rw [returnsToken_concat, forced]
      simp
    have phase (j : Socket) : (u.modHeater i (fun h => { h with onTime := s.newTime i })).thu.heaters[j].phase =
        u.thu.heaters[j].phase := by
      rw [State.modHeater_heaters]
      split
      · next e => subst e; rfl
      · rfl
    rw [moved]
    refine ⟨r.rcu, r.biu, r.scanner, r.ldr, r.acu, r.rlu,
      r.readings.trans (sameReadings_modHeater u i _ (fun _ => ⟨rfl, rfl, rfl, rfl⟩)), fun j => ?_, fun j => ?_,
      fun j fresh on => ?_, fun pending j fresh on => ?_, fun back => r.returned (same.1 back), fun no => r.kept (fun back => no (same.2 back))⟩
    · rw [State.modHeater_heaters]
      by_cases e : i = j
      · subst e
        rw [if_pos rfl, if_pos ((mem i).2 (.inr rfl))]
      · rw [if_neg e, r.onTime j]
        simp only [mem, Ne.symm e, or_false]
    · rw [State.modHeater_heaters]
      by_cases e : i = j
      · subst e
        rw [if_pos rfl]
        show u.thu.heaters[i].inForce = _
        rw [r.inForce i, forced]
        simp
      · rw [if_neg e, r.inForce j]
        simp only [mem, Ne.symm e, or_false]
    · rw [phase]
      exact r.staysOn j (fun m => fresh ((mem j).2 (.inl m))) on
    · rw [phase] at on
      exact r.quiet pending j (fun m => fresh ((mem j).2 (.inl m))) on
  | true =>
    rw [regulate_of_forced (forces.trans forced)]
    obtain ⟨rcu, biu, scanner, ldr, acu, rlu⟩ := forceOff_blocks u i
    obtain ⟨_, _, _, tokens, bdu, _⟩ := forceOff_heater u i
    have prof : u.prof = s.prof := by unfold State.prof; rw [r.ldr]
    have same (no : ¬(s.thu.releasePending = true ∧ s.thu.heaters[i].phase = .on)) :
        s.returnsToken (l ++ [i]) ↔ s.returnsToken l := by
      rw [returnsToken_concat]
      exact or_iff_left (fun ⟨pending, _, on⟩ => no ⟨pending, on⟩)
    have onNow (pending : u.thu.releasePending = true) : u.thu.heaters[i].phase = .on ↔ s.thu.heaters[i].phase = .on :=
      ⟨r.quiet pending i new, r.staysOn i new⟩
    have pendingWas (pending : u.thu.releasePending = true) : s.thu.releasePending = true ∧ ¬s.returnsToken l := by
      by_cases back : s.returnsToken l
      · rw [(r.returned back).2.1] at pending
        cases pending
      · exact ⟨(r.kept back).2.1.symm.trans pending, back⟩
    obtain ⟨releases, keeps, quiet⟩ := forceOff_release u i
    refine ⟨rcu.trans r.rcu, biu.trans r.biu, scanner.trans r.scanner, ldr.trans r.ldr, acu.trans r.acu, rlu.trans r.rlu,
      r.readings.trans (sameReadings_forceOff u i), fun j => ?_, fun j => ?_, fun j fresh on => ?_, fun pending j fresh on => ?_,
      fun back => ?_, fun no => ?_⟩
    · rw [(forceOff_times u i j).1]
      by_cases e : i = j
      · subst e
        rw [if_pos rfl, if_pos ((mem i).2 (.inr rfl)), newTime_of_forced forced]
      · rw [if_neg e, r.onTime j]
        simp only [mem, Ne.symm e, or_false]
    · rw [(forceOff_times u i j).2.1]
      by_cases e : i = j
      · subst e
        rw [if_pos rfl, if_pos ⟨(mem i).2 (.inr rfl), forced⟩]
      · rw [if_neg e, r.inForce j]
        simp only [mem, Ne.symm e, or_false]
    · have apart : i ≠ j := fun e => fresh ((mem j).2 (.inr e.symm))
      exact (forceOff_times u i j).2.2 apart (r.staysOn j (fun m => fresh ((mem j).2 (.inl m))) on)
    · have apart : i ≠ j := fun e => fresh ((mem j).2 (.inr e.symm))
      have was : u.thu.releasePending = true := by
        by_cases gone : u.thu.releasePending = true ∧ u.thu.heaters[i].phase = .on
        · rw [releases gone] at pending
          cases pending
        · rw [← keeps gone]
          exact pending
      exact r.quiet was j (fun m => fresh ((mem j).2 (.inl m))) (quiet pending j on)
    · by_cases before : s.returnsToken l
      · obtain ⟨tokens', pending', bdu'⟩ := r.returned before
        have gone : ¬(u.thu.releasePending = true ∧ u.thu.heaters[i].phase = .on) := fun h => by
          rw [pending'] at h
          cases h.1
        rw [tokens, bdu, keeps gone, pending', tokens', bdu']
        exact ⟨rfl, rfl, rfl⟩
      · obtain ⟨tokens', pending', bdu'⟩ := r.kept before
        have now : s.thu.releasePending = true ∧ s.thu.heaters[i].phase = .on := by
          by_contra no
          exact before ((same no).1 back)
        have pendingNow : u.thu.releasePending = true := pending'.trans now.1
        have on : u.thu.heaters[i].phase = .on := r.staysOn i new now.2
        rw [tokens, bdu, releases ⟨pendingNow, on⟩, pendingNow, on, tokens', bdu', prof]
        exact ⟨rfl, rfl, rfl⟩
    · have before : ¬s.returnsToken l := fun h => no (returnsToken_concat.2 (.inl h))
      obtain ⟨tokens', pending', bdu'⟩ := r.kept before
      have gone : ¬(u.thu.releasePending = true ∧ u.thu.heaters[i].phase = .on) := fun ⟨pending, on⟩ =>
        no (returnsToken_concat.2 (.inr ⟨(pendingWas pending).1, forced, (onNow pending).1 on⟩))
      have none : (u.thu.releasePending && u.thu.heaters[i].phase == .on) = false := by
        rw [Bool.eq_false_iff]
        intro h
        rw [Bool.and_eq_true, beq_iff_eq] at h
        exact gone h
      rw [tokens, bdu, keeps gone, none, tokens', bdu', pending']
      exact ⟨rfl, rfl, rfl⟩

/-- Every list of different sockets regulated in its order. -/
theorem regulated_foldl (s : State) (l : List Socket) (distinct : l.Nodup) : Regulated s l (l.foldl State.regulate s) := by
  induction l using List.reverseRecOn with
  | nil =>
    refine ⟨rfl, rfl, rfl, rfl, rfl, rfl, SameReadings.refl s, fun i => rfl, fun i => ?_, fun _ _ on => on, fun _ _ _ on => on,
      fun back => ?_, fun _ => ⟨rfl, rfl, rfl⟩⟩
    · rw [if_neg (fun h => absurd h.1 List.not_mem_nil)]
      rfl
    · obtain ⟨_, i, mem, _⟩ := back
      exact absurd mem List.not_mem_nil
  | append_singleton l i ih =>
    obtain ⟨distinct', _, apart⟩ := List.nodup_append.1 distinct
    rw [List.foldl_append]
    exact (ih distinct').step (fun mem => apart i mem i (by simp) rfl)

end

end Sys2Proof.Machine
end

section
/-! SUPPORT. The order in which returned tokens serve the wait queue at a scan completion (R81, R94, R99, R104). -/

namespace Sys2Proof.Machine

/-- The phase of a heater forced off (R100). -/
def HeaterPhase.rested (p : HeaterPhase) : HeaterPhase := if p = .on ∨ p = .waiting then .offTime else p

theorem HeaterPhase.rested_ne (p : HeaterPhase) : p.rested ≠ .on ∧ p.rested ≠ .waiting := by cases p <;> decide

/-- From `s` to `u` the sockets of `l` are regulated, the wait queue in order (R104): each forced one is at rest, the others have
been served in their order, and nothing else has moved. -/
structure ServedInOrder (s : State) (l : List Socket) (u : State) : Prop where
  inOrder : u.queueMatches
  done : ∀ i ∈ l, s.forces i = true → u.thu.heaters[i].phase = s.thu.heaters[i].phase.rested
  left : ∀ i : Socket, i ∉ l → s.forces i = true → u.thu.heaters[i].phase = s.thu.heaters[i].phase ∨
    (s.thu.heaters[i].phase = .waiting ∧ u.thu.heaters[i].phase = .on)
  served : ∃ served : List Socket, s.thu.waitQueue.filter (fun i => !s.forces i) =
      served ++ u.thu.waitQueue.filter (fun i => !s.forces i) ∧
    ∀ i : Socket, s.forces i = false →
      (i ∈ served → u.thu.heaters[i].phase = .on ∧ u.thu.heaters[i].onLeft = some (msTicks s.thu.heaters[i].inForce)) ∧
      (i ∉ served → u.thu.heaters[i].phase = s.thu.heaters[i].phase ∧ u.thu.heaters[i].onLeft = s.thu.heaters[i].onLeft)

section
variable {s u : State} {l : List Socket} {i : Socket}

/-- Before any socket is regulated. -/
theorem ServedInOrder.nil (order : s.queueMatches) : ServedInOrder s [] s :=
  ⟨order, fun _ mem => absurd mem List.not_mem_nil, fun _ _ _ => .inl rfl, [], rfl,
    fun _ _ => ⟨fun mem => absurd mem List.not_mem_nil, fun _ => ⟨rfl, rfl⟩⟩⟩

/-- A change of one heater that moves neither phase nor the time left leaves the order. -/
theorem ServedInOrder.kept (o : ServedInOrder s l u) (f : Heater → Heater)
    (same : ∀ h, (f h).phase = h.phase ∧ (f h).onLeft = h.onLeft) (kept : s.forces i = false) :
    ServedInOrder s (l ++ [i]) (u.modHeater i f) := by
  have phase (j : Socket) : (u.modHeater i f).thu.heaters[j].phase = u.thu.heaters[j].phase ∧
      (u.modHeater i f).thu.heaters[j].onLeft = u.thu.heaters[j].onLeft := by
    rw [State.modHeater_heaters]
    split
    · next e => subst e; exact same _
    · exact ⟨rfl, rfl⟩
  obtain ⟨nodup, waits⟩ := o.inOrder
  obtain ⟨served, split, each⟩ := o.served
  refine ⟨⟨nodup, fun j => ?_⟩, fun j mem forced => ?_, fun j fresh forced => ?_, served, split, fun j free => ?_⟩
  · rw [(phase j).1]
    exact waits j
  · rw [(phase j).1]
    refine o.done j ?_ forced
    rcases List.mem_append.1 mem with mem | mem
    · exact mem
    · rw [List.mem_singleton.1 mem, kept] at forced
      cases forced
  · rw [(phase j).1]
    exact o.left j (fun mem => fresh (List.mem_append_left _ mem)) forced
  · rw [(phase j).1, (phase j).2]
    exact each j free

/-- One heater is forced off, the phases and the queue after it said place by place. -/
theorem ServedInOrder.forced (o : ServedInOrder s l u) (forced : s.forces i = true) (t : State)
    (queue : t.thu.waitQueue.Nodup) (waits : ∀ j, j ∈ t.thu.waitQueue ↔ t.thu.heaters[j].phase = .waiting)
    (rest : t.thu.heaters[i].phase = s.thu.heaters[i].phase.rested)
    (next : List Socket)
    (split : u.thu.waitQueue.filter (fun j => !s.forces j) = next ++ t.thu.waitQueue.filter (fun j => !s.forces j))
    (turned : ∀ j, i ≠ j → (t.thu.heaters[j].phase = u.thu.heaters[j].phase ∧
        t.thu.heaters[j].onLeft = u.thu.heaters[j].onLeft ∧ j ∉ next) ∨
      (u.thu.heaters[j].phase = .waiting ∧ t.thu.heaters[j].phase = .on ∧ (s.forces j = false → j ∈ next) ∧
        t.thu.heaters[j].onLeft = some (msTicks u.thu.heaters[j].inForce)))
    (inForce : ∀ j : Socket, s.forces j = false → u.thu.heaters[j].inForce = s.thu.heaters[j].inForce) :
    ServedInOrder s (l ++ [i]) t := by
  obtain ⟨served, splitU, each⟩ := o.served
  refine ⟨⟨queue, waits⟩, fun j mem forcedJ => ?_, fun j fresh forcedJ => ?_, served ++ next, ?_, fun j free => ?_⟩
  · by_cases e : i = j
    · subst e
      exact rest
    · have inL : j ∈ l := by
        rcases List.mem_append.1 mem with mem | mem
        · exact mem
        · exact absurd (List.mem_singleton.1 mem).symm e
      rcases turned j e with ⟨phase, _⟩ | ⟨waiting, _⟩
      · exact phase.trans (o.done j inL forcedJ)
      · rw [o.done j inL forcedJ] at waiting
        exact absurd waiting (HeaterPhase.rested_ne _).2
  · have apart : i ≠ j := fun e => fresh (List.mem_append.2 (.inr (List.mem_singleton.2 e.symm)))
    have before := o.left j (fun mem => fresh (List.mem_append_left _ mem)) forcedJ
    rcases turned j apart with ⟨phase, _⟩ | ⟨waiting, on, _⟩
    · rw [phase]
      exact before
    · refine .inr ⟨?_, on⟩
      rcases before with same | ⟨was, _⟩
      · exact same.symm.trans waiting
      · exact was
  · rw [splitU, split, List.append_assoc]
  · have apart : i ≠ j := fun e => by rw [← e, forced] at free; cases free
    obtain ⟨servedJ, unservedJ⟩ := each j free
    rcases turned j apart with ⟨phase, onLeft, absent⟩ | ⟨waiting, on, chosen, onLeft⟩
    · rw [phase, onLeft]
      refine ⟨fun mem => servedJ ?_, fun out => unservedJ (fun mem => out (List.mem_append_left _ mem))⟩
      rcases List.mem_append.1 mem with mem | mem
      · exact mem
      · exact absurd mem absent
    · rw [on, onLeft, inForce j free]
      exact ⟨fun _ => ⟨rfl, rfl⟩, fun out => absurd (List.mem_append_right _ (chosen free)) out⟩

/-- One heater forced off, the wait queue in order (R100, R104): it is at rest, the queue stays in order, and of the others at
most the head of the queue is served. `keep` may be any choice of sockets without it. -/
theorem forceOff_serves (order : u.queueMatches) (keep : Socket → Bool) (dropped : keep i = false) :
    let t := u.forceOff i
    t.queueMatches ∧ t.thu.heaters[i].phase = u.thu.heaters[i].phase.rested ∧
    ∃ next : List Socket, u.thu.waitQueue.filter keep = next ++ t.thu.waitQueue.filter keep ∧
      ∀ j, i ≠ j → (t.thu.heaters[j].phase = u.thu.heaters[j].phase ∧
          t.thu.heaters[j].onLeft = u.thu.heaters[j].onLeft ∧ j ∉ next) ∨
        (u.thu.heaters[j].phase = .waiting ∧ t.thu.heaters[j].phase = .on ∧ (keep j = true → j ∈ next) ∧
          t.thu.heaters[j].onLeft = some (msTicks u.thu.heaters[j].inForce)) := by
  obtain ⟨nodup, waits⟩ := id order
  have at_i (f : Heater → Heater) : (u.modHeater i f).thu.heaters[i] = f u.thu.heaters[i] :=
    (State.modHeater_heaters u i f i).trans (if_pos rfl)
  have other (f : Heater → Heater) (j : Socket) (apart : i ≠ j) : (u.modHeater i f).thu.heaters[j] = u.thu.heaters[j] :=
    (State.modHeater_heaters u i f j).trans (if_neg apart)
  have stays (f : Heater → Heater) (j : Socket) (apart : i ≠ j) :
      (u.modHeater i f).thu.heaters[j].phase = u.thu.heaters[j].phase ∧
        (u.modHeater i f).thu.heaters[j].onLeft = u.thu.heaters[j].onLeft ∧ j ∉ ([] : List Socket) := by
    rw [other f j apart]
    exact ⟨rfl, rfl, List.not_mem_nil⟩
  have offNow : (u.modHeater i quenched).thu.heaters[i].phase = .offTime := by rw [at_i]; rfl
  by_cases on : u.thu.heaters[i].phase = .on
  · have rests : u.thu.heaters[i].phase.rested = .offTime := by rw [on]; rfl
    have notWaiting : i ∉ u.thu.waitQueue := fun mem => by
      rw [(waits i).1 mem] at on
      cases on
    have waitsOff (j : Socket) : j ∈ u.thu.waitQueue ↔ (u.modHeater i quenched).thu.heaters[j].phase = .waiting := by
      by_cases e : i = j
      · subst e
        rw [offNow]
        exact ⟨fun mem => absurd mem notWaiting, nofun⟩
      · rw [other quenched j e]
        exact waits j
    cases pending : u.thu.releasePending with
    | true =>
      rw [forceOff_of_pending on pending]
      exact ⟨⟨nodup, waitsOff⟩, offNow.trans rests.symm, [], rfl, fun j apart => .inl (stays quenched j apart)⟩
    | false =>
      cases queue : u.thu.waitQueue with
      | nil =>
        rw [forceOff_of_unserved on pending queue]
        refine ⟨⟨nodup, waitsOff⟩, offNow.trans rests.symm, [], ?_, fun j apart => .inl (stays quenched j apart)⟩
        show _ = [] ++ u.thu.waitQueue.filter keep
        rw [queue]
        rfl
      | cons k rest =>
        rw [forceOff_of_served on pending queue]
        rw [queue] at nodup waitsOff notWaiting
        obtain ⟨freshK, nodup'⟩ := List.nodup_cons.1 nodup
        have apartK : i ≠ k := fun e => notWaiting (by rw [e]; exact List.mem_cons_self)
        have waitingK : u.thu.heaters[k].phase = .waiting := (waits k).1 (by rw [queue]; exact List.mem_cons_self)
        have now (j : Socket) : (State.modHeater { u.modHeater i quenched with
            thu := { (u.modHeater i quenched).thu with waitQueue := rest } } k turnOn).thu.heaters[j] =
            if k = j then turnOn (u.modHeater i quenched).thu.heaters[k] else (u.modHeater i quenched).thu.heaters[j] :=
          State.modHeater_heaters _ k turnOn j
        refine ⟨⟨nodup', fun j => ?_⟩, ?_, [k].filter keep, ?_, fun j apart => ?_⟩
        · rw [now j]
          show j ∈ rest ↔ _
          by_cases e : k = j
          · subst e
            rw [if_pos rfl]
            exact ⟨fun mem => absurd mem freshK, nofun⟩
          · rw [if_neg e, ← waitsOff j, List.mem_cons]
            exact ⟨.inr, fun h => h.resolve_left (Ne.symm e)⟩
        · rw [now i, if_neg (Ne.symm apartK)]
          exact offNow.trans rests.symm
        · show _ = [k].filter keep ++ rest.filter keep
          rw [← List.filter_append]
          rfl
        · rw [now j]
          by_cases e : k = j
          · subst e
            rw [if_pos rfl, other quenched k apartK]
            refine .inr ⟨waitingK, rfl, fun kept => ?_, rfl⟩
            exact List.mem_filter.2 ⟨List.mem_singleton.2 rfl, kept⟩
          · rw [if_neg e, other quenched j apart]
            refine .inl ⟨rfl, rfl, fun mem => e ?_⟩
            exact (List.mem_singleton.1 (List.mem_of_mem_filter mem)).symm
  · by_cases waiting : u.thu.heaters[i].phase = .waiting
    · have rests : u.thu.heaters[i].phase.rested = .offTime := by rw [waiting]; rfl
      rw [forceOff_of_waiting waiting]
      refine ⟨⟨nodup.filter _, fun j => ?_⟩, offNow.trans rests.symm, [], ?_, fun j apart => .inl (stays quenched j apart)⟩
      · show j ∈ u.thu.waitQueue.filter (· != i) ↔ (u.modHeater i quenched).thu.heaters[j].phase = .waiting
        rw [List.mem_filter]
        by_cases e : i = j
        · subst e
          rw [offNow]
          simp
        · rw [other quenched j e, ← waits j]
          simp [Ne.symm e]
      · show _ = [] ++ (u.thu.waitQueue.filter (· != i)).filter _
        rw [List.nil_append, List.filter_filter]
        refine List.filter_congr fun j _ => ?_
        by_cases e : j = i
        · rw [e, dropped]
          rfl
        · simp [e]
    · rw [forceOff_of_still on waiting]
      refine ⟨⟨nodup, fun j => ?_⟩, ?_, [], rfl, fun j apart => .inl (stays zeroed j apart)⟩
      · by_cases e : i = j
        · subst e
          rw [zeroed_phase]
          exact waits i
        · rw [other zeroed j e]
          exact waits j
      · rw [zeroed_phase]
        unfold HeaterPhase.rested
        rw [if_neg (fun h => h.elim on waiting)]

/-- One more socket regulated keeps the order (R104). -/
theorem ServedInOrder.step (o : ServedInOrder s l u) (r : Regulated s l u) (new : i ∉ l) :
    ServedInOrder s (l ++ [i]) (u.regulate i) := by
  obtain ⟨forces, newTime, _⟩ := r.sees new
  cases forced : s.forces i with
  | false =>
    rw [regulate_of_kept (forces.trans forced)]
    exact o.kept _ (fun _ => ⟨rfl, rfl⟩) forced
  | true =>
    rw [regulate_of_forced (forces.trans forced)]
    obtain ⟨order, rests, next, split, turned⟩ := forceOff_serves (i := i) o.inOrder (fun j => !s.forces j) (by rw [forced]; rfl)
    refine o.forced forced _ order.1 order.2 (rests.trans ?_) next split (fun j apart => ?_) (fun j free => ?_)
    · rcases o.left i new forced with same | ⟨was, now⟩
      · rw [same]
      · rw [was, now]
        rfl
    · refine (turned j apart).imp_right fun ⟨waiting, on, chosen, onLeft⟩ => ⟨waiting, on, fun free => chosen ?_, onLeft⟩
      rw [free]
      rfl
    · rw [r.inForce j, if_neg (fun h => by rw [free] at h; cases h.2)]

/-- Every list of different sockets regulated in its order, from a wait queue in order. -/
theorem served_foldl (s : State) (order : s.queueMatches) (l : List Socket) (distinct : l.Nodup) :
    ServedInOrder s l (l.foldl State.regulate s) := by
  induction l using List.reverseRecOn with
  | nil => exact ServedInOrder.nil order
  | append_singleton l i ih =>
    obtain ⟨distinct', _, apart⟩ := List.nodup_append.1 distinct
    rw [List.foldl_append]
    exact (ih distinct').step (regulated_foldl s l distinct') (fun mem => apart i mem i (by simp) rfl)

end

end Sys2Proof.Machine

namespace Sys2Proof

open Machine

/-- Settles O41: the half-round request, and the completion of a scan. -/
theorem scansAreRequestedAndCompleted : Obligations.ScansAreRequestedAndCompleted := by
  refine ⟨fun s running => ⟨fun cold => ?_, fun warm none => ?_, fun warm busy => ?_⟩, fun s running scan channel => ?_⟩
  · exact congrArg Host.Outcome.next (if_neg (fun h => by rw [cold] at h; cases h.2))
  · refine congrArg Host.Outcome.next ((if_pos ⟨running, warm⟩).trans ?_)
    unfold State.requestScan
    rw [none]
  · refine congrArg Host.Outcome.next ((if_pos ⟨running, warm⟩).trans ?_)
    unfold State.requestScan
    cases scan : s.scanner.scan with
    | none => exact absurd scan busy
    | some kind =>
      cases held : s.scanner.held with
      | none => rfl
      | some other => rfl
  · intro forced returned
    have ends : s.scanEnds = true := by
      unfold State.scanEnds
      rw [running, channel, Option.isSome_iff_ne_none.2 scan]
      rfl
    have forcedIs (i : Socket) : s.forces i = forced i := forces_eq
    have mem (i : Socket) : i ∈ allSockets := List.mem_finRange i
    have r := regulated_foldl s allSockets (List.nodup_finRange 16)
    have o (order : s.queueMatches) := served_foldl s order allSockets (List.nodup_finRange 16)
    have taken : exec .scanCompletion s = .next s.regulateAll.nextScan := congrArg Host.Outcome.next (if_pos ends)
    unfold State.regulateAll at taken
    generalize allSockets.foldl State.regulate s = u at r o taken
    obtain ⟨records, posted, recordsOf⟩ := mapRecords_frame u (fun i r => { r with onTime := u.thu.heaters[i].onTime })
    dsimp only at taken
    rw [posted] at taken
    have back : s.returnsToken allSockets ↔ returned := by
      refine and_congr_right fun _ => ⟨fun ⟨i, _, f, on⟩ => ⟨i, (forcedIs i).symm.trans f, on⟩,
        fun ⟨i, f, on⟩ => ⟨i, mem i, (forcedIs i).trans f, on⟩⟩
    have onTime (i : Socket) : u.thu.heaters[i].onTime = s.newTime i := (r.onTime i).trans (if_pos (mem i))
    have timeOf {i : Socket} (eligible : s.eligible i = true) :
        u.thu.heaters[i].onTime = (newOnTime s.prof s.thu.heaters[i]).getD 0 := (onTime i).trans (if_pos eligible)
    refine ⟨_, taken, ?_, r.rcu, r.biu, r.rlu, fun i => ⟨?_, fun cold => ?_, fun eligible => ⟨fun cold => ?_,
      fun inWindow below => ?_, fun inWindow above => ?_⟩, fun off => ?_⟩, fun order => ⟨fun i off => ?_, ?_⟩,
      fun yes => r.returned (back.2 yes), fun no => r.kept (fun yes => no (back.1 yes))⟩
    · show ({ u.scanner with scan := u.scanner.held, channel := 0, held := none } : Scanner) = _
      rw [r.scanner]
    · show records[i] = _
      rw [recordsOf i, r.acu]
      rfl
    · refine (onTime i).trans (if_neg ?_)
      rw [cold]
      exact Bool.false_ne_true
    · refine (timeOf eligible).trans ?_
      unfold newOnTime
      rw [cold]
      rfl
    · refine (timeOf eligible).trans ?_
      unfold newOnTime
      rw [inWindow]
      dsimp only
      rw [if_pos below]
      rfl
    · refine (timeOf eligible).trans ?_
      unfold newOnTime
      rw [inWindow]
      dsimp only
      rw [if_neg (Int.not_lt.2 above)]
      rfl
    · refine ⟨(onTime i).trans (newTime_of_forced ((forcedIs i).trans off)), ?_⟩
      exact (r.inForce i).trans (if_pos ⟨mem i, (forcedIs i).trans off⟩)
    · have phase := (o order).done i (mem i) ((forcedIs i).trans off)
      obtain ⟨notOn, notWaiting⟩ := HeaterPhase.rested_ne s.thu.heaters[i].phase
      rw [← phase] at notOn notWaiting
      exact ⟨beq_eq_false_iff_ne.2 notOn, fun waits => notWaiting (((o order).inOrder.2 i).1 waits), phase⟩
    · obtain ⟨served, split, each⟩ := (o order).served
      simp only [forcedIs] at split each
      have noneForced : u.thu.waitQueue.filter (fun i => !forced i) = u.thu.waitQueue := by
        refine List.filter_eq_self.2 fun i waits => ?_
        cases off : forced i with
        | false => rfl
        | true =>
          have phase := (o order).done i (mem i) ((forcedIs i).trans off)
          rw [((o order).inOrder.2 i).1 waits] at phase
          exact absurd phase.symm (HeaterPhase.rested_ne _).2
      rw [noneForced] at split
      exact ⟨served, split, each⟩

end Sys2Proof
end

section
/-! SUPPORT. The pass check, socket by socket (R118, R119, R122, R123, R134, R135, R155, R156). -/

namespace Sys2Proof.Machine

section
variable {s : State} {i : Socket}

/-! ### A failure at the Thermal Unit -/

/-- Forcing a heater off moves the Thermal Unit by what stands there alone (R100, R104). -/
theorem forceOff_thu {t : State} (same : t.thu = s.thu) (i : Socket) : (t.forceOff i).thu = (s.forceOff i).thu := by
  have eq : t = { t with thu := s.thu } := by rw [← same]
  rw [eq]
  by_cases on : s.thu.heaters[i].phase = .on
  · cases pending : s.thu.releasePending with
    | true =>
      rw [forceOff_of_pending on pending, forceOff_of_pending (s := { t with thu := s.thu }) on pending]
      rfl
    | false =>
      cases queue : s.thu.waitQueue with
      | nil =>
        rw [forceOff_of_unserved on pending queue, forceOff_of_unserved (s := { t with thu := s.thu }) on pending queue]
        rfl
      | cons k rest =>
        rw [forceOff_of_served on pending queue, forceOff_of_served (s := { t with thu := s.thu }) on pending queue]
        rfl
  · by_cases waiting : s.thu.heaters[i].phase = .waiting
    · rw [forceOff_of_waiting waiting, forceOff_of_waiting (s := { t with thu := s.thu }) waiting]
      rfl
    · rw [forceOff_of_still on waiting, forceOff_of_still (s := { t with thu := s.thu }) on waiting]
      rfl

/-- What a socket's failure does at the Thermal Unit (R97, R100). -/
theorem failSocket_thu (s : State) (i : Socket) (kind : FailKind) (finding : Finding) :
    (s.failSocket i kind finding).thu = ((s.forceOff i).modHeater i noTrips).thu := by
  rw [failSocket_eq]
  unfold State.failed State.dropSocket
  have forced : (((s.writeSocketEntry i finding true).modRecord i
      (fun r => r.fail kind (s.writeSocketEntry i finding true).rcu.phase)).modPower i openPower |>.forceOff i).thu =
      (s.forceOff i).thu := by
    refine forceOff_thu ?_ i
    show (s.writeSocketEntry i finding true).thu = _
    unfold State.writeSocketEntry
    rw [writeEntry_acu]
  unfold State.releaseAllowance
  show ({ (State.forceOff _ i).thu with heaters := _ } : Thu) = _
  rw [forced]
  rfl

/-! ### One socket's check -/

/-- The pass check looks at the socket (R119, R122). -/
def State.checks (s : State) (i : Socket) : Bool := s.ptu.members[i] && s.socketState i == .running

/-- The check finds a mismatch (R122). -/
def State.mismatches (s : State) (i : Socket) : Bool := s.checks i && s.ptu.sigs[i] != s.ptu.expected

/-- The mismatch reaches the threshold (R123). -/
def State.reaches (s : State) (i : Socket) : Bool := decide (s.prof.functionalThreshold ≤ s.acu.records[i].streak + 1)

/-- The check fails the socket (R123). -/
def State.failsCheck (s : State) (i : Socket) : Bool := s.mismatches i && s.reaches i

/-- The record after the check (R122, R123, R135). -/
def State.checkedRecord (s : State) (i : Socket) : SocketRecord :=
  if s.failsCheck i then s.acu.records[i].mismatched.fail .functional s.rcu.phase
  else if s.mismatches i then { s.acu.records[i].mismatched with soft := true }
  else if s.checks i then s.acu.records[i].matched
  else s.acu.records[i]

/-- The entry of a mismatch at the threshold, or of the first of its phase (R123). -/
def State.checkEntry (s : State) (i : Socket) : Option Entry :=
  if s.mismatches i && (s.reaches i || !s.acu.records[i].soft) then
    some (s.entryOf i (if s.reaches i then .functional s.ptu.sigs[i] s.ptu.inverted else .soft s.ptu.sigs[i] s.ptu.inverted)
      (s.reaches i))
  else none

/-- The allowances freed by the sockets of a list that fail (R65, R123). -/
def State.freed (s : State) (l : List Socket) : Nat := ((l.filter s.failsCheck).map (fun i => s.rlu.sockets[i].allowance)).sum

/-- A mismatch of the record that reaches the check's next step (R122). -/
theorem mismatched_record : (s.modRecord i SocketRecord.mismatched).acu.records[i] = s.acu.records[i].mismatched :=
  (State.modRecord_records s i _ i).trans (if_pos rfl)

/-- A socket that the check does not look at (R119, R134). -/
theorem checkSocket_of_unchecked (unchecked : s.checks i = false) : s.checkSocket i = s := by
  unfold State.checks at unchecked
  unfold State.checkSocket
  rw [if_neg]
  rintro ⟨member, running⟩
  rw [member, running] at unchecked
  cases unchecked

/-- A socket that the check looks at (R119, R122). -/
theorem checkSocket_of_checked (checked : s.checks i = true) : s.checkSocket i =
    if s.ptu.sigs[i] = s.ptu.expected then s.modRecord i SocketRecord.matched
    else (s.modRecord i SocketRecord.mismatched).judgeMismatch i s.ptu.sigs[i] := by
  unfold State.checks at checked
  rw [Bool.and_eq_true, beq_iff_eq] at checked
  exact if_pos checked

/-- A match (R122). -/
theorem checkSocket_of_match (checked : s.checks i = true) (fine : s.mismatches i = false) :
    s.checkSocket i = s.modRecord i SocketRecord.matched := by
  unfold State.mismatches at fine
  rw [checked, Bool.true_and, bne_eq_false_iff_eq] at fine
  rw [checkSocket_of_checked checked, if_pos fine]

/-- A mismatch, before it is judged (R122). -/
theorem checkSocket_of_mismatch (wrong : s.mismatches i = true) :
    s.checkSocket i = (s.modRecord i SocketRecord.mismatched).judgeMismatch i s.ptu.sigs[i] := by
  unfold State.mismatches at wrong
  rw [Bool.and_eq_true, bne_iff_ne] at wrong
  rw [checkSocket_of_checked wrong.1, if_neg wrong.2]

/-- A mismatch at the threshold fails the socket (R123). -/
theorem checkSocket_of_fail (fails : s.failsCheck i = true) : s.checkSocket i =
    (s.modRecord i SocketRecord.mismatched).failSocket i .functional (.functional s.ptu.sigs[i] s.ptu.inverted) := by
  unfold State.failsCheck State.reaches at fails
  rw [Bool.and_eq_true, decide_eq_true_eq] at fails
  rw [checkSocket_of_mismatch fails.1]
  unfold State.judgeMismatch
  rw [mismatched_record]
  exact if_pos fails.2

/-- A mismatch below the threshold sets the soft flag, and writes an entry where it was not set (R123). -/
theorem checkSocket_of_soft (wrong : s.mismatches i = true) (below : s.reaches i = false) : s.checkSocket i =
    { s with acu := { (if s.acu.records[i].soft then s
        else s.writeEntry (s.entryOf i (.soft s.ptu.sigs[i] s.ptu.inverted) false)).acu with
      records := s.acu.records.set i { s.acu.records[i].mismatched with soft := true } } } := by
  unfold State.reaches at below
  rw [decide_eq_false_iff_not] at below
  rw [checkSocket_of_mismatch wrong]
  unfold State.judgeMismatch
  rw [mismatched_record]
  have rest : ¬(s.modRecord i SocketRecord.mismatched).prof.functionalThreshold ≤ s.acu.records[i].mismatched.streak := below
  rw [if_neg rest]
  have softSame : s.acu.records[i].mismatched.soft = s.acu.records[i].soft := rfl
  rw [softSame]
  cases soft : s.acu.records[i].soft with
  | true =>
    have same : ({ s.acu.records[i].mismatched with soft := true } : SocketRecord) = s.acu.records[i].mismatched := by
      rw [← softSame] at soft
      generalize s.acu.records[i].mismatched = r at soft
      cases r
      cases soft
      rfl
    rw [same]
    rfl
  | false =>
    have entry : (s.modRecord i SocketRecord.mismatched).entryOf i (.soft s.ptu.sigs[i] s.ptu.inverted) false =
        s.entryOf i (.soft s.ptu.sigs[i] s.ptu.inverted) false := by
      unfold State.entryOf
      rw [mismatched_record]
      rfl
    have written : (s.modRecord i SocketRecord.mismatched).writeEntry (s.entryOf i (.soft s.ptu.sigs[i] s.ptu.inverted) false) =
        (s.writeEntry (s.entryOf i (.soft s.ptu.sigs[i] s.ptu.inverted) false)).modRecord i SocketRecord.mismatched := by
      unfold State.writeEntry
      rw [State.modRecord_history]
      split <;> rfl
    have wrote : (s.modRecord i SocketRecord.mismatched).writeSocketEntry i (.soft s.ptu.sigs[i] s.ptu.inverted) false =
        (s.writeEntry (s.entryOf i (.soft s.ptu.sigs[i] s.ptu.inverted) false)).modRecord i SocketRecord.mismatched := by
      rw [← written, ← entry]
      rfl
    rw [if_neg Bool.false_ne_true, if_neg Bool.false_ne_true]
    show State.modRecord ((s.modRecord i SocketRecord.mismatched).writeSocketEntry i (.soft s.ptu.sigs[i] s.ptu.inverted) false) i
      (fun r => { r with soft := true }) = _
    rw [wrote, modRecord_modRecord]
    have records := State.writeEntry_records s (s.entryOf i (.soft s.ptu.sigs[i] s.ptu.inverted) false)
    rw [writeEntry_acu]
    generalize (s.writeEntry (s.entryOf i (.soft s.ptu.sigs[i] s.ptu.inverted) false)).acu = a at records
    unfold State.modRecord
    dsimp only
    rw [records]

end

end Sys2Proof.Machine
end

section
/-! SUPPORT. The pass check over the sockets, one after another (R118, R122, R123, R155, R156). -/

namespace Sys2Proof.Machine

section
variable {s t u : State} {l : List Socket} {i : Socket}

/-! ### What a failure leaves of the heaters -/

/-- A failed socket's heater is forced off, and the trip counts play no part in what is read here (R97, R100). -/
theorem failSocket_heaters (s : State) (i : Socket) (kind : FailKind) (finding : Finding) :
    (s.failSocket i kind finding).thu.waitQueue = (s.forceOff i).thu.waitQueue ∧
    (s.failSocket i kind finding).thu.releasePending = (s.forceOff i).thu.releasePending ∧
    ∀ j : Socket, (s.failSocket i kind finding).thu.heaters[j].phase = (s.forceOff i).thu.heaters[j].phase ∧
      (s.failSocket i kind finding).thu.heaters[j].onTime = (s.forceOff i).thu.heaters[j].onTime := by
  rw [failSocket_thu]
  refine ⟨rfl, rfl, fun j => ?_⟩
  rw [State.modHeater_heaters]
  split
  · next e => subst e; exact ⟨rfl, rfl⟩
  · exact ⟨rfl, rfl⟩

/-- A wait queue in order stays so as a socket fails; its heater is at rest, and one that was at rest stays so (R100, R104). -/
theorem failSocket_rests (order : s.queueMatches) (kind : FailKind) (finding : Finding) :
    (s.failSocket i kind finding).queueMatches ∧ ∀ j : Socket,
      (i = j ∨ (s.thu.heaters[j].phase ≠ .on ∧ s.thu.heaters[j].phase ≠ .waiting) →
        (s.failSocket i kind finding).thu.heaters[j].phase ≠ .on ∧
        (s.failSocket i kind finding).thu.heaters[j].phase ≠ .waiting) := by
  obtain ⟨queue, _, heaters⟩ := failSocket_heaters s i kind finding
  obtain ⟨⟨nodup, waits⟩, rested, _, _, others⟩ := forceOff_serves (i := i) order (fun _ => false) rfl
  refine ⟨⟨by rw [queue]; exact nodup, fun j => ?_⟩, fun j rests => ?_⟩
  · rw [queue, (heaters j).1]
    exact waits j
  · rw [(heaters j).1]
    by_cases e : i = j
    · subst e
      rw [rested]
      exact HeaterPhase.rested_ne _
    · have still := rests.resolve_left e
      rcases others j e with ⟨phase, _⟩ | ⟨waiting, _⟩
      · rw [phase]
        exact still
      · exact absurd waiting still.2

/-! ### A history of 48 -/

/-- An entry taken, of a history that keeps the first 48 of some list (R155, R156). -/
theorem State.takesEntry.history {e : Entry} {all : List Entry} (takes : s.takesEntry t e)
    (was : s.acu.history = all.take 48) : t.acu.history = (all ++ [e]).take 48 := by
  obtain ⟨room, full⟩ := takes
  rw [was, List.length_take] at room full
  by_cases short : all.length < 48
  · rw [(room (by omega)).1, List.take_of_length_le (by omega), List.take_of_length_le (by simp; omega)]
  · rw [(full (by omega)).1, List.take_append_of_le_length (by omega)]

/-! ### The sockets checked so far -/

/-- From `s` to `u` the pass check has been made of the sockets of `l` (R122, R123, R155, R156). -/
structure Checked (s : State) (l : List Socket) (u : State) : Prop where
  rcu : u.rcu = s.rcu
  biu : u.biu = s.biu
  scanner : u.scanner = s.scanner
  ldr : u.ldr = s.ldr
  ptu : u.ptu = { s.ptu with members := u.ptu.members, reentryLeft := s.ptu.reentryLeft - 1 }
  rlu : u.rlu = { s.rlu with sockets := u.rlu.sockets }
  bdu : u.bdu = { s.bdu with ownHeld := u.bdu.ownHeld }
  members : ∀ i : Socket, i ∉ l → u.ptu.members[i] = s.ptu.members[i]
  records : ∀ i : Socket, u.acu.records[i] = if i ∈ l then s.checkedRecord i else s.acu.records[i]
  sockets : ∀ i : Socket, u.rlu.sockets[i] =
    if i ∈ l ∧ s.failsCheck i = true then SocketPower.initial else s.rlu.sockets[i]
  history : s.acu.history.length ≤ 48 → u.acu.history = (s.acu.history ++ l.filterMap s.checkEntry).take 48
  cold : ∀ i ∈ l, s.failsCheck i = true → u.thu.heaters[i].onTime = 0
  order : s.queueMatches → u.queueMatches ∧ ∀ i ∈ l, s.failsCheck i = true →
    u.thu.heaters[i].phase ≠ .on ∧ u.thu.heaters[i].phase ≠ .waiting
  quiet : u.thu.releasePending = true → s.thu.releasePending = true ∧ u.thu.tokens = s.thu.tokens ∧
    ∀ i : Socket, u.thu.heaters[i].phase = .on → s.thu.heaters[i].phase = .on
  account : s.thu.onCount ≤ s.thu.tokens → u.bdu.ownHeld - u.thu.tokens * s.prof.nominal =
    s.bdu.ownHeld - s.thu.tokens * s.prof.nominal - s.freed l
  free : s.thu.releasePending = false → u.thu.releasePending = false ∧ u.bdu.ownHeld = s.bdu.ownHeld - s.freed l

/-- Before any socket is checked, whatever is left of the re-entry passes (R118). -/
theorem Checked.nil (s : State) :
    Checked s [] { s with ptu := { s.ptu with reentryLeft := s.ptu.reentryLeft - 1 } } := by
  refine ⟨rfl, rfl, rfl, rfl, rfl, rfl, rfl, fun _ _ => rfl, fun _ => (if_neg List.not_mem_nil).symm, fun i => ?_, fun le => ?_,
    fun _ mem => absurd mem List.not_mem_nil, fun order => ⟨order, fun _ mem => absurd mem List.not_mem_nil⟩,
    fun pending => ⟨pending, rfl, fun _ on => on⟩, fun _ => rfl, fun free => ⟨free, rfl⟩⟩
  · rw [if_neg (fun h => List.not_mem_nil h.1)]
  · rw [List.filterMap_nil, List.append_nil, List.take_of_length_le le]

/-- What the check of the next socket reads is what it was (R122, R123). -/
theorem Checked.sees (c : Checked s l u) (new : i ∉ l) : u.acu.records[i] = s.acu.records[i] ∧
    u.checks i = s.checks i ∧ u.mismatches i = s.mismatches i ∧ u.reaches i = s.reaches i ∧
    u.failsCheck i = s.failsCheck i ∧ u.checkedRecord i = s.checkedRecord i ∧ u.checkEntry i = s.checkEntry i := by
  have record : u.acu.records[i] = s.acu.records[i] := by rw [c.records i, if_neg new]
  have checks : u.checks i = s.checks i := by
    unfold State.checks State.socketState
    rw [c.members i new, record]
  have player : u.ptu.sigs = s.ptu.sigs ∧ u.ptu.expected = s.ptu.expected ∧ u.ptu.inverted = s.ptu.inverted := by
    rw [c.ptu]
    exact ⟨rfl, rfl, rfl⟩
  obtain ⟨sigs, expected, inverted⟩ := player
  have mismatches : u.mismatches i = s.mismatches i := by
    unfold State.mismatches
    rw [checks, sigs, expected]
  have prof : u.prof = s.prof := by unfold State.prof; rw [c.ldr]
  have reaches : u.reaches i = s.reaches i := by
    unfold State.reaches
    rw [record, prof]
  have fails : u.failsCheck i = s.failsCheck i := by
    unfold State.failsCheck
    rw [mismatches, reaches]
  refine ⟨record, checks, mismatches, reaches, fails, ?_, ?_⟩
  · unfold State.checkedRecord
    rw [record, checks, mismatches, fails, c.rcu]
  · unfold State.checkEntry State.entryOf
    rw [record, mismatches, reaches, sigs, inverted, c.rcu, c.biu]

/-- One more socket at the end of the list. -/
theorem mem_concat_iff (j : Socket) : j ∈ l ++ [i] ↔ j ∈ l ∨ i = j := by
  rw [List.mem_append, List.mem_singleton, eq_comm (a := j)]

/-- The allowance freed by one more socket (R65, R123). -/
theorem freed_concat : s.freed (l ++ [i]) = s.freed l + if s.failsCheck i then s.rlu.sockets[i].allowance else 0 := by
  unfold State.freed
  rw [List.filter_append, List.map_append, List.sum_append]
  cases fails : s.failsCheck i <;> simp [fails]

/-- The next socket's record alone moves, and the history with it: no failure (R122, R123). -/
theorem Checked.recorded (c : Checked s l u) (stands : s.failsCheck i = false) (a : Acu)
    (mine : a.records[i] = s.checkedRecord i) (others : ∀ j : Socket, i ≠ j → a.records[j] = u.acu.records[j])
    (history : s.acu.history.length ≤ 48 → a.history = (s.acu.history ++ (l ++ [i]).filterMap s.checkEntry).take 48) :
    Checked s (l ++ [i]) { u with acu := a } := by
  have still (j : Socket) : (j ∈ l ++ [i] ∧ s.failsCheck j = true) ↔ (j ∈ l ∧ s.failsCheck j = true) := by
    rw [mem_concat_iff]
    refine and_congr_left fun fails => or_iff_left fun e => ?_
    rw [← e, stands] at fails
    cases fails
  have freed : s.freed (l ++ [i]) = s.freed l := by rw [freed_concat, stands]; rfl
  refine ⟨c.rcu, c.biu, c.scanner, c.ldr, c.ptu, c.rlu, c.bdu, fun j out => c.members j (fun mem => out (List.mem_append_left _ mem)),
    fun j => ?_, fun j => (c.sockets j).trans (if_congr (still j).symm rfl rfl), history,
    fun j mem fails => c.cold j ((still j).1 ⟨mem, fails⟩).1 fails,
    fun order => ⟨(c.order order).1, fun j mem fails => (c.order order).2 j ((still j).1 ⟨mem, fails⟩).1 fails⟩,
    c.quiet, fun covered => ?_, fun free => ?_⟩
  · by_cases e : i = j
    · subst e
      rw [if_pos ((mem_concat_iff i).2 (.inr rfl))]
      exact mine
    · refine (others j e).trans ((c.records j).trans (if_congr ?_ rfl rfl))
      rw [mem_concat_iff]
      exact (or_iff_left e).symm
  · rw [freed]
    exact c.account covered
  · rw [freed]
    exact c.free free

/-- With no entry the history stays. -/
theorem Checked.history_kept (c : Checked s l u) (quiet : s.checkEntry i = none) (le : s.acu.history.length ≤ 48) :
    u.acu.history = (s.acu.history ++ (l ++ [i]).filterMap s.checkEntry).take 48 := by
  rw [List.filterMap_append, List.filterMap_cons_none quiet, List.filterMap_nil, List.append_nil]
  exact c.history le

/-- With an entry the history takes it (R155, R156). -/
theorem Checked.history_taken {e : Entry} (c : Checked s l u) (entry : s.checkEntry i = some e) (v : State)
    (same : v.acu.history = u.acu.history) (takes : v.takesEntry t e) (le : s.acu.history.length ≤ 48) :
    t.acu.history = (s.acu.history ++ (l ++ [i]).filterMap s.checkEntry).take 48 := by
  rw [List.filterMap_append, List.filterMap_cons_some entry, List.filterMap_nil, ← List.append_assoc]
  exact takes.history (same.trans (c.history le))

/-- The next socket fails (R123). -/
theorem Checked.failed (c : Checked s l u) (new : i ∉ l) (fails : s.failsCheck i = true) :
    Checked s (l ++ [i]) (u.checkSocket i) := by
  obtain ⟨record, _, _, reaches, failsNow, _, _⟩ := c.sees new
  have wrong : s.mismatches i = true ∧ s.reaches i = true := by
    unfold State.failsCheck at fails
    rwa [Bool.and_eq_true] at fails
  have moved := checkSocket_of_fail (s := u) (failsNow.trans fails)
  have player : u.ptu.sigs = s.ptu.sigs ∧ u.ptu.inverted = s.ptu.inverted := by
    rw [c.ptu]
    exact ⟨rfl, rfl⟩
  rw [player.1, player.2] at moved
  have mine : (u.modRecord i SocketRecord.mismatched).acu.records[i] = s.acu.records[i].mismatched := by
    rw [mismatched_record, record]
  have other (j : Socket) (apart : i ≠ j) : (u.modRecord i SocketRecord.mismatched).acu.records[j] = u.acu.records[j] :=
    (State.modRecord_records u i _ j).trans (if_neg apart)
  have entry : s.checkEntry i = some ((u.modRecord i SocketRecord.mismatched).entryOf i
      (.functional s.ptu.sigs[i] s.ptu.inverted) true) := by
    unfold State.checkEntry State.entryOf
    rw [wrong.1, wrong.2, mine]
    have run : (u.modRecord i SocketRecord.mismatched).rcu = s.rcu ∧ (u.modRecord i SocketRecord.mismatched).biu = s.biu :=
      ⟨c.rcu, c.biu⟩
    rw [run.1, run.2]
    rfl
  have checkedAs : s.checkedRecord i = s.acu.records[i].mismatched.fail .functional s.rcu.phase := if_pos fails
  have thu : (u.modRecord i SocketRecord.mismatched).thu = u.thu := rfl
  have same : (u.modRecord i SocketRecord.mismatched).bdu = u.bdu ∧ (u.modRecord i SocketRecord.mismatched).rlu = u.rlu ∧
      (u.modRecord i SocketRecord.mismatched).ptu = u.ptu ∧ (u.modRecord i SocketRecord.mismatched).rcu = u.rcu ∧
      (u.modRecord i SocketRecord.mismatched).biu = u.biu ∧ (u.modRecord i SocketRecord.mismatched).scanner = u.scanner ∧
      (u.modRecord i SocketRecord.mismatched).ldr = u.ldr ∧
      (u.modRecord i SocketRecord.mismatched).acu.history = u.acu.history := ⟨rfl, rfl, rfl, rfl, rfl, rfl, rfl, rfl⟩
  rw [moved]
  generalize u.modRecord i SocketRecord.mismatched = v at *
  obtain ⟨bduV, rluV, ptuV, rcuV, biuV, scannerV, ldrV, historyV⟩ := same
  obtain ⟨⟨_, _, cold, _, _, tokens, bdu, ptu, _, _, othersF, rlu, rcu, biu, scanner, ldr⟩, power, _, recordF, takes⟩ :=
    failSocket_fails v i .functional (.functional s.ptu.sigs[i] s.ptu.inverted)
  obtain ⟨_, release, heaters⟩ := failSocket_heaters v i .functional (.functional s.ptu.sigs[i] s.ptu.inverted)
  have rests := failSocket_rests (s := v) (i := i) (kind := .functional) (finding := .functional s.ptu.sigs[i] s.ptu.inverted)
  generalize v.failSocket i .functional (.functional s.ptu.sigs[i] s.ptu.inverted) = t at *
  obtain ⟨releases, keeps, noneServed⟩ := forceOff_release v i
  have prof : v.prof = s.prof := by unfold State.prof; rw [ldrV, c.ldr]
  have allowance : v.rlu.sockets[i].allowance = s.rlu.sockets[i].allowance := by
    rw [rluV, c.sockets i, if_neg (fun h => new h.1)]
  have freed : s.freed (l ++ [i]) = s.freed l + s.rlu.sockets[i].allowance := by rw [freed_concat, fails]; rfl
  rw [bduV, allowance, thu, prof] at bdu
  rw [thu] at tokens releases keeps noneServed
  rw [← release] at releases keeps noneServed
  have others (j : Socket) (apart : i ≠ j) : t.acu.records[j] = u.acu.records[j] ∧ t.rlu.sockets[j] = u.rlu.sockets[j] := by
    rw [(othersF j (Ne.symm apart)).1, (othersF j (Ne.symm apart)).2, other j apart, rluV]
    exact ⟨rfl, rfl⟩
  have onlyElse (j : Socket) (apart : i ≠ j) : j ∈ l ++ [i] ↔ j ∈ l := (mem_concat_iff j).trans (or_iff_left apart)
  refine ⟨rcu.trans (rcuV.trans c.rcu), biu.trans (biuV.trans c.biu), scanner.trans (scannerV.trans c.scanner),
    ldr.trans (ldrV.trans c.ldr), ?_, ?_, ?_, fun j out => ?_, fun j => ?_, fun j => ?_,
    fun le => c.history_taken entry v historyV takes le, fun j mem failsJ => ?_, fun order => ?_, fun pending => ?_,
    fun covered => ?_, fun free => ?_⟩
  · rw [ptu, ptuV, c.ptu]
  · rw [rlu, rluV, c.rlu]
  · rw [bdu, c.bdu]
  · have apart : i ≠ j := fun e => out ((mem_concat_iff j).2 (.inr e))
    rw [ptu, ptuV]
    show (u.ptu.members.set i false)[j] = _
    rw [set_getElem, if_neg apart]
    exact c.members j (fun mem => out (List.mem_append_left _ mem))
  · by_cases e : i = j
    · subst e
      rw [if_pos ((mem_concat_iff i).2 (.inr rfl)), recordF, mine, checkedAs, rcuV, c.rcu]
      rfl
    · rw [(others j e).1, c.records j, if_congr (onlyElse j e) rfl rfl]
  · by_cases e : i = j
    · subst e
      rw [if_pos ⟨(mem_concat_iff i).2 (.inr rfl), fails⟩, power]
    · rw [(others j e).2, c.sockets j, if_congr (and_congr_left fun _ => onlyElse j e) rfl rfl]
  · by_cases e : i = j
    · subst e
      exact cold
    · rw [(heaters j).2, (forceOff_times v i j).1, if_neg e, thu]
      exact c.cold j ((onlyElse j e).1 mem) failsJ
  · obtain ⟨orderU, rest⟩ := c.order order
    obtain ⟨orderT, each⟩ := rests (by unfold State.queueMatches at orderU ⊢; rw [thu]; exact orderU)
    refine ⟨orderT, fun j mem failsJ => each j ?_⟩
    rcases (mem_concat_iff j).1 mem with mem | e
    · rw [thu]
      exact .inr (rest j mem failsJ)
    · exact .inl e
  · have was : ¬(u.thu.releasePending = true ∧ u.thu.heaters[i].phase = .on) := fun now => by
      rw [releases now] at pending
      cases pending
    have pendingU : u.thu.releasePending = true := (keeps was).symm.trans pending
    obtain ⟨pendingS, tokensU, on⟩ := c.quiet pendingU
    have off : ¬u.thu.heaters[i].phase = .on := fun on => was ⟨pendingU, on⟩
    refine ⟨pendingS, ?_, fun j onJ => ?_⟩
    · rw [tokens, beq_eq_false_iff_ne.2 off, Bool.and_false, if_neg Bool.false_ne_true, tokensU]
      rfl
    · rw [(heaters j).1] at onJ
      exact on j (noneServed pending j onJ)
  · have sum := c.account covered
    rw [freed, tokens, bdu]
    show u.bdu.ownHeld - _ - s.rlu.sockets[i].allowance - _ = _
    by_cases gone : u.thu.releasePending = true ∧ u.thu.heaters[i].phase = .on
    · obtain ⟨pending, on⟩ := gone
      obtain ⟨_, tokensU, was⟩ := c.quiet pending
      have some_token : 0 < u.thu.tokens := tokensU ▸ (onCount_pos s i (was i on)).trans covered
      obtain ⟨k, held⟩ := Nat.exists_eq_succ_of_ne_zero some_token.ne'
      rw [held, Nat.succ_mul] at sum
      rw [pending, on, held]
      show u.bdu.ownHeld - s.prof.nominal - s.rlu.sockets[i].allowance - k * s.prof.nominal = _
      omega
    · have none : (u.thu.releasePending && u.thu.heaters[i].phase == .on) = false := by
        rw [Bool.eq_false_iff]
        intro h
        rw [Bool.and_eq_true, beq_iff_eq] at h
        exact gone h
      rw [none]
      show u.bdu.ownHeld - 0 - s.rlu.sockets[i].allowance - (u.thu.tokens - 0) * s.prof.nominal = _
      rw [Nat.sub_zero, Nat.sub_zero]
      omega
  · obtain ⟨freeU, sum⟩ := c.free free
    have stays : ¬(u.thu.releasePending = true ∧ u.thu.heaters[i].phase = .on) := fun h => by
      rw [freeU] at h
      cases h.1
    refine ⟨(keeps stays).trans freeU, ?_⟩
    rw [freed, bdu, freeU]
    show u.bdu.ownHeld - 0 - s.rlu.sockets[i].allowance = _
    omega

/-- One more socket checked (R122, R123). -/
theorem Checked.step (c : Checked s l u) (new : i ∉ l) : Checked s (l ++ [i]) (u.checkSocket i) := by
  obtain ⟨record, checks, mismatches, reaches, _, _, entry⟩ := c.sees new
  cases fails : s.failsCheck i with
  | true => exact c.failed new fails
  | false =>
    have plain : s.checkedRecord i = if s.mismatches i then { s.acu.records[i].mismatched with soft := true }
        else if s.checks i then s.acu.records[i].matched else s.acu.records[i] :=
      if_neg (by rw [fails]; exact Bool.false_ne_true)
    cases wrong : s.mismatches i with
    | false =>
      rw [wrong, if_neg Bool.false_ne_true] at plain
      have noEntry : s.checkEntry i = none := by
        unfold State.checkEntry
        rw [wrong]
        rfl
      cases looked : s.checks i with
      | false =>
        rw [checkSocket_of_unchecked (checks.trans looked)]
        rw [looked, if_neg Bool.false_ne_true] at plain
        exact c.recorded fails u.acu (record.trans plain.symm) (fun _ _ => rfl) (c.history_kept noEntry)
      | true =>
        rw [checkSocket_of_match (checks.trans looked) (mismatches.trans wrong)]
        rw [looked, if_pos rfl] at plain
        refine c.recorded fails (u.modRecord i SocketRecord.matched).acu ?_ (fun j apart => ?_) (c.history_kept noEntry)
        · rw [State.modRecord_records, if_pos rfl, record, plain]
        · rw [State.modRecord_records, if_neg apart]
    | true =>
      rw [wrong, if_pos rfl] at plain
      have below : s.reaches i = false := by
        unfold State.failsCheck at fails
        rwa [wrong, Bool.true_and] at fails
      rw [checkSocket_of_soft (mismatches.trans wrong) (reaches.trans below), record]
      refine c.recorded fails _ ?_ (fun j apart => ?_) (fun le => ?_)
      · show (u.acu.records.set i { s.acu.records[i].mismatched with soft := true })[i] = _
        rw [set_getElem, if_pos rfl, plain]
      · show (u.acu.records.set i { s.acu.records[i].mismatched with soft := true })[j] = _
        rw [set_getElem, if_neg apart]
      · show (if s.acu.records[i].soft = true then u else _).acu.history = _
        have entryIs : s.checkEntry i = if s.acu.records[i].soft = true then none
            else some (u.entryOf i (.soft u.ptu.sigs[i] u.ptu.inverted) false) := by
          rw [← entry]
          unfold State.checkEntry
          rw [mismatches, wrong, reaches, below, record]
          cases s.acu.records[i].soft <;> rfl
        cases soft : s.acu.records[i].soft with
        | true =>
          rw [soft, if_pos rfl] at entryIs
          exact c.history_kept entryIs le
        | false =>
          rw [soft, if_neg Bool.false_ne_true] at entryIs
          exact c.history_taken entryIs u rfl (writeEntry_takesEntry u _) le

/-- Every list of different sockets checked in its order. -/
theorem checked_foldl (s : State) (last : s.ptu.reentryLeft = 0) (l : List Socket) (distinct : l.Nodup) :
    Checked s l (l.foldl State.checkSocket s) := by
  induction l using List.reverseRecOn with
  | nil =>
    have same : ({ s.ptu with reentryLeft := s.ptu.reentryLeft - 1 } : Ptu) = s.ptu := by
      generalize s.ptu = p at last
      cases p
      subst last
      rfl
    have none := Checked.nil s
    rw [same] at none
    exact none
  | append_singleton l i ih =>
    obtain ⟨distinct', _, apart⟩ := List.nodup_append.1 distinct
    rw [List.foldl_append]
    exact (ih distinct').step (fun mem => apart i mem i (by simp) rfl)

/-- The sockets that a pass end checks (R118 step 1). -/
def State.checkedSockets (s : State) : List Socket := if s.ptu.reentryLeft = 0 then allSockets else []

/-- The results of a pass end (R118 step 1). -/
theorem postResults_checked (s : State) : Checked s s.checkedSockets s.postResults := by
  unfold State.checkedSockets State.postResults
  by_cases last : s.ptu.reentryLeft = 0
  · rw [if_pos last, if_pos last]
    exact checked_foldl s last allSockets (List.nodup_finRange 16)
  · rw [if_neg last, if_neg last]
    exact Checked.nil s

end

end Sys2Proof.Machine
end

section
/-! SUPPORT. What follows the results of a pass end: the next pass, or the stop (R114 to R120, R124, R139). -/

namespace Sys2Proof.Machine

section
variable {s t u : State} {l : List Socket} {i : Socket}

/-! ### The checked records -/

theorem checkedRecord_of_fail (fails : s.failsCheck i = true) :
    s.checkedRecord i = s.acu.records[i].mismatched.fail .functional s.rcu.phase := if_pos fails

theorem checkedRecord_of_soft (wrong : s.mismatches i = true) (below : s.reaches i = false) :
    s.checkedRecord i = { s.acu.records[i].mismatched with soft := true } := by
  unfold State.checkedRecord State.failsCheck
  rw [wrong, below]
  rfl

theorem checkedRecord_of_match (looked : s.checks i = true) (fine : s.mismatches i = false) :
    s.checkedRecord i = s.acu.records[i].matched := by
  unfold State.checkedRecord State.failsCheck
  rw [fine, looked]
  rfl

theorem checkedRecord_of_unchecked (unchecked : s.checks i = false) : s.checkedRecord i = s.acu.records[i] := by
  unfold State.checkedRecord State.failsCheck State.mismatches
  rw [unchecked]
  rfl

/-- A socket found wrong is RUNNING (R122). -/
theorem running_of_mismatches (wrong : s.mismatches i = true) : s.socketState i = .running := by
  unfold State.mismatches State.checks at wrong
  rw [Bool.and_eq_true, Bool.and_eq_true, beq_iff_eq] at wrong
  exact wrong.1.2

/-- The check moves a socket's state where it fails it alone (R123). -/
theorem checkedRecord_state : (s.checkedRecord i).state = if s.failsCheck i then .failed else s.socketState i := by
  unfold State.checkedRecord State.socketState
  split_ifs <;> rfl

theorem Checked.socketState (c : Checked s l u) (i : Socket) :
    u.socketState i = if i ∈ l ∧ s.failsCheck i = true then .failed else s.socketState i := by
  unfold State.socketState
  rw [c.records i]
  by_cases mem : i ∈ l
  · rw [if_pos mem, checkedRecord_state]
    exact if_congr (by simp [mem]) rfl rfl
  · rw [if_neg mem, if_neg (fun h => mem h.1)]

/-! ### What goes on after the results -/

/-- From `u` to `t` what the results of the pass posted stands: the counts, the entries, and the losses of the failed sockets. -/
structure GoesOn (u t : State) : Prop where
  history : t.acu.history = u.acu.history
  records : ∀ i : Socket, ∃ st : SocketState, t.acu.records[i] = { u.acu.records[i] with state := st } ∧
    (st = .failed ↔ u.socketState i = .failed)
  sockets : ∀ i : Socket, u.socketState i = .failed → t.rlu.sockets[i] = u.rlu.sockets[i]
  heaters : ∀ i : Socket, t.thu.heaters[i] = u.thu.heaters[i] ∨ t.thu.heaters[i] = endHeater u.thu.heaters[i]

/-- A state that keeps the records, the power side and the heaters. -/
theorem GoesOn.of_same (history : t.acu.history = u.acu.history) (records : t.acu.records = u.acu.records)
    (sockets : ∀ i : Socket, u.socketState i = .failed → t.rlu.sockets[i] = u.rlu.sockets[i]) (thu : t.thu = u.thu) :
    GoesOn u t :=
  ⟨history, fun i => ⟨u.socketState i, by rw [records]; rfl, Iff.rfl⟩, sockets, fun i => .inl (by rw [thu])⟩

/-! ### The next pass -/

/-- The first clock of the pass, a vector clock (R114, R118 step 3). -/
theorem raiseFirst_of_vector {v : PatternVector} (left : s.ptu.clocksLeft ≠ 0)
    (vector : s.prof.vectors[s.ptu.vector]? = some v) :
    s.raiseFirst = { s with ptu := { s.ptu.raise v.compare (polarised s.ptu.inverted v.drive) with
      vector := (s.ptu.afterClock s.prof.vectors).1, clocksLeft := (s.ptu.afterClock s.prof.vectors).2 } } := by
  unfold State.raiseFirst
  rw [nextClock_of_vector left vector]

/-- The first clock of a pass moves the player alone, and of it neither the pass nor the members (R118 step 3). -/
theorem raiseFirst_frame (s : State) : ∃ ptu : Ptu, s.raiseFirst = { s with ptu := ptu } ∧ ptu.engine = s.ptu.engine ∧
    ptu.passIndex = s.ptu.passIndex ∧ ptu.inverted = s.ptu.inverted ∧ ptu.reentryLeft = s.ptu.reentryLeft ∧
    ptu.sigs = s.ptu.sigs ∧ ptu.members = s.ptu.members := by
  by_cases left : s.ptu.clocksLeft ≠ 0
  · cases vector : s.prof.vectors[s.ptu.vector]? with
    | none =>
      have ends : s.nextClock = none := by
        unfold State.nextClock
        dsimp only
        rw [if_pos left, vector]
      unfold State.raiseFirst
      rw [ends]
      exact ⟨s.ptu, rfl, rfl, rfl, rfl, rfl, rfl, rfl⟩
    | some v => exact ⟨_, raiseFirst_of_vector left vector, rfl, rfl, rfl, rfl, rfl, rfl⟩
  · rw [not_not] at left
    unfold State.raiseFirst
    by_cases drain : s.ptu.drainLeft = 0
    · rw [nextClock_of_end left drain]
      exact ⟨s.ptu, rfl, rfl, rfl, rfl, rfl, rfl, rfl⟩
    · rw [nextClock_of_drain left drain]
      exact ⟨_, rfl, rfl, rfl, rfl, rfl, rfl, rfl⟩

/-- The player where the next pass begins (R115, R118 step 3). -/
def Ptu.advanced (p : Ptu) (prof : Profile) (members : Vector Bool 16) : Ptu :=
  Ptu.begun { p with passIndex := p.passIndex + 1 } prof members

/-- What the next pass leaves and what it writes (R114 to R121). -/
theorem startNextPass_frame (s : State) : ∃ (records : Vector SocketRecord 16) (members : Vector Bool 16) (ptu : Ptu),
    s.startNextPass = { s with acu := { s.acu with records := records }, ptu := ptu } ∧
    (∀ i : Socket, records[i] = { s.acu.records[i] with state := (s.socketState i).rejoin }) ∧
    (∀ i : Socket, members[i] = ((s.socketState i).rejoin == .running)) ∧
    (ptu.engine = s.ptu.engine ∧ ptu.passIndex = s.ptu.passIndex + 1 ∧
      ptu.inverted = invertedAt s.ptu.sequence (s.ptu.passIndex + 1) ∧ ptu.reentryLeft = s.ptu.reentryLeft ∧
      ptu.sigs = Vector.replicate 16 0xFFFF ∧ ptu.members = members) ∧
    ∀ v : PatternVector, (s.ptu.advanced s.prof members).clocksLeft ≠ 0 →
      s.prof.vectors[(s.ptu.advanced s.prof members).vector]? = some v →
      ptu = { (s.ptu.advanced s.prof members).raise v.compare
          (polarised (invertedAt s.ptu.sequence (s.ptu.passIndex + 1)) v.drive) with
        vector := ((s.ptu.advanced s.prof members).afterClock s.prof.vectors).1
        clocksLeft := ((s.ptu.advanced s.prof members).afterClock s.prof.vectors).2 } := by
  obtain ⟨records, members, begun, rejoined, joined⟩ :=
    beginPass_frame { s with ptu := { s.ptu with passIndex := s.ptu.passIndex + 1 } }
  have begins : s.startNextPass =
      State.raiseFirst { s with acu := { s.acu with records := records }, ptu := s.ptu.advanced s.prof members } :=
    congrArg State.raiseFirst begun
  obtain ⟨ptu, raised, engine, passIndex, inverted, reentryLeft, sigs, members'⟩ :=
    raiseFirst_frame { s with acu := { s.acu with records := records }, ptu := s.ptu.advanced s.prof members }
  refine ⟨records, members, ptu, begins.trans raised, rejoined, joined,
    ⟨engine, passIndex, inverted, reentryLeft, sigs, members'⟩, fun v left vector => ?_⟩
  have first := raiseFirst_of_vector
    (s := { s with acu := { s.acu with records := records }, ptu := s.ptu.advanced s.prof members }) left vector
  exact congrArg State.ptu (raised.symm.trans first)

/-- The results stand as the next pass begins. -/
theorem goesOn_startNextPass (u : State) : GoesOn u u.startNextPass := by
  obtain ⟨records, members, ptu, next, rejoined, _⟩ := startNextPass_frame u
  rw [next]
  refine ⟨rfl, fun i => ⟨(u.socketState i).rejoin, rejoined i, ?_⟩, fun _ _ => rfl, fun _ => .inl rfl⟩
  cases u.socketState i <;> decide

/-! ### The stop -/

/-- A retarget's rails taken leave the sockets that do not hold (R66, R74, R75). -/
theorem goesOn_takeRetarget (target : Nat) (l : List Rail) : ∀ v : State, GoesOn v (v.takeRetarget target l) ∧
    (v.takeRetarget target l).ptu = v.ptu ∧ (v.takeRetarget target l).acu = v.acu := by
  induction l with
  | nil =>
    intro v
    obtain ⟨sockets, complete, each⟩ := retargetComplete_frame v target
    have moved : v.takeRetarget target [] = _ := complete
    rw [moved]
    refine ⟨GoesOn.of_same rfl rfl (fun i failed => (each i).trans (if_neg ?_)) rfl, rfl, rfl⟩
    rw [failed]
    decide
  | cons r rest ih =>
    intro v
    by_cases same : v.rcu.railLevel target r = v.rcu.railLevel v.rcu.phase r
    · rw [takeRetarget_of_same target r rest same]
      exact ih v
    · rw [takeRetarget_of_changed target r rest same]
      exact ⟨GoesOn.of_same rfl rfl (fun _ _ => rfl) rfl, rfl, rfl⟩

/-- The delta computed leaves the sockets that do not hold (R40, R41). -/
theorem goesOn_computeDelta (u : State) (target : Nat) : GoesOn u (u.computeDelta target) ∧
    (u.computeDelta target).ptu = u.ptu ∧ (u.computeDelta target).acu = u.acu := by
  unfold State.computeDelta
  split
  · exact ⟨GoesOn.of_same rfl rfl (fun _ _ => rfl) rfl, rfl, rfl⟩
  · obtain ⟨sockets, started, each⟩ := startRetarget_frame u target
    rw [started]
    obtain ⟨on, ptu, acu⟩ := goesOn_takeRetarget target allRails { u with
      rcu := { u.rcu with transit := some { target := target, stage := .retargeting } }
      rlu := { u.rlu with sockets := sockets } }
    refine ⟨⟨on.history, on.records, fun i failed => (on.sockets i failed).trans ((each i).trans (if_neg ?_)), on.heaters⟩,
      ptu, acu⟩
    rw [failed]
    decide

/-- A stop complete leaves the engine stopped, the gate closed, and what the results posted (R124, R139). -/
theorem stopComplete_frame (u : State) : GoesOn u u.stopComplete ∧
    (∃ members : Vector Bool 16, u.stopComplete.ptu = { u.ptu with members := members } ∧
      ∀ i : Socket, members[i] = true → u.ptu.members[i] = true) ∧
    u.stopComplete.acu.stationGate = u.acu.stationGate := by
  have stays : GoesOn u u ∧ (∃ members : Vector Bool 16, u.ptu = { u.ptu with members := members } ∧
      ∀ i : Socket, members[i] = true → u.ptu.members[i] = true) ∧ u.acu.stationGate = u.acu.stationGate :=
    ⟨GoesOn.of_same rfl rfl (fun _ _ => rfl) rfl, ⟨u.ptu.members, rfl, fun _ h => h⟩, rfl⟩
  cases state : u.rcu.state with
  | active =>
    unfold State.stopComplete
    rw [state]
    dsimp only
    split
    · split
      · next transit _ _ _ =>
        obtain ⟨on, ptu, acu⟩ := goesOn_computeDelta u transit.target
        exact ⟨on, ⟨u.ptu.members, ptu, fun _ member => member⟩, by rw [acu]⟩
      · exact stays
    · exact stays
  | windDown =>
    cases powering : u.rcu.poweringDown with
    | true =>
      have same : u.stopComplete = u := by
        unfold State.stopComplete
        rw [state]
        exact if_pos powering
      rw [same]
      exact stays
    | false =>
      rw [stopComplete_of_windDown state powering]
      obtain ⟨_, _, _, _, _, ⟨members, ptu, kept⟩, ⟨records, gate, powered, acu, off⟩, lines⟩ := powerDown_spec state
      refine ⟨⟨by rw [acu], fun i => ⟨(u.socketState i).turnOff, by rw [acu]; exact off i, ?_⟩, fun i failed => ?_,
        fun i => .inr (lines i).1⟩, ⟨members, ptu, fun i member => ?_⟩, by rw [acu]⟩
      · cases u.socketState i <;> decide
      · refine (lines i).2.trans (if_neg ?_)
        rw [failed]
        decide
      · rw [kept i, Bool.and_eq_true] at member
        exact member.1
  | _ =>
    have same : u.stopComplete = u := by
      unfold State.stopComplete
      rw [state]
    rw [same]
    exact stays

/-! ### The winddown that waited for the stop -/

/-- What the holding sockets hold, before the check and after it (R65, R123). -/
theorem Checked.holding (c : Checked s l u) (m : List Socket) :
    ((m.filter (fun i => (s.socketState i).holds)).map (fun i => s.rlu.sockets[i].allowance)).sum =
      ((m.filter (fun i => decide (i ∈ l) && s.failsCheck i)).map (fun i => s.rlu.sockets[i].allowance)).sum +
      ((m.filter (fun i => (u.socketState i).holds)).map (fun i => u.rlu.sockets[i].allowance)).sum := by
  induction m with
  | nil => rfl
  | cons i m ih =>
    rw [List.filter_cons, List.filter_cons, List.filter_cons, c.socketState i]
    by_cases gone : i ∈ l ∧ s.failsCheck i = true
    · have wrong : s.mismatches i = true := by
        have fails := gone.2
        unfold State.failsCheck at fails
        rw [Bool.and_eq_true] at fails
        exact fails.1
      have counted : (decide (i ∈ l) && s.failsCheck i) = true := by rw [Bool.and_eq_true, decide_eq_true_eq]; exact gone
      have holds : (s.socketState i).holds = true := by rw [running_of_mismatches wrong]; rfl
      rw [if_pos gone, if_pos holds, if_pos counted, if_neg (by decide), List.map_cons, List.sum_cons, List.map_cons,
        List.sum_cons, ih, Nat.add_assoc]
    · have kept : u.rlu.sockets[i] = s.rlu.sockets[i] := (c.sockets i).trans (if_neg gone)
      have stays : ¬(decide (i ∈ l) && s.failsCheck i) = true := by
        rw [Bool.and_eq_true, decide_eq_true_eq]
        exact gone
      rw [if_neg gone, if_neg stays]
      by_cases holds : (s.socketState i).holds = true
      · rw [if_pos holds, if_pos holds, List.map_cons, List.sum_cons, List.map_cons, List.sum_cons, kept, ih]
        omega
      · rw [if_neg holds, if_neg holds, ih]

/-- The allowances of the sockets that a pass end fails (R65, R118, R123). -/
theorem freed_checkedSockets : s.freed s.checkedSockets =
    ((allSockets.filter (fun i => decide (i ∈ s.checkedSockets) && s.failsCheck i)).map
      (fun i => s.rlu.sockets[i].allowance)).sum := by
  unfold State.freed State.checkedSockets
  split
  · refine congrArg (fun m : List Socket => (m.map (fun i => s.rlu.sockets[i].allowance)).sum) (List.filter_congr fun i _ => ?_)
    have all : i ∈ allSockets := List.mem_finRange i
    rw [decide_eq_true all, Bool.true_and]
  · simp

/-- The power-down after the check, told from the state before the check (R49, R68, R124). -/
theorem windsDown_of_checked (c : Checked s s.checkedSockets u) (covered : s.thu.onCount ≤ s.thu.tokens)
    (on : GoesOn u t) (wound : u.windsDown t) : s.windsDown t := by
  obtain ⟨tokens, deferred, lines, ended, held, rails⟩ := wound
  have railOf (r : Rail) : u.rlu.rails[r.ix] = s.rlu.rails[r.ix] := by rw [c.rlu]
  have railState (r : Rail) : u.railState r = s.railState r := congrArg RailUnit.state (railOf r)
  have railsOff : u.railsOff = s.railsOff := by
    unfold State.railsOff
    simp only [railState]
  have prof : u.prof = s.prof := by unfold State.prof; rw [c.ldr]
  refine ⟨tokens, deferred, fun i => ⟨(lines i).1, fun holds => ?_⟩, fun off => ended (railsOff.trans off), fun up => ?_,
    fun r runs after => ?_⟩
  · by_cases gone : i ∈ s.checkedSockets ∧ s.failsCheck i = true
    · have failed : u.socketState i = .failed := (c.socketState i).trans (if_pos gone)
      show t.rlu.sockets[i].closed = false
      rw [on.sockets i failed, c.sockets i, if_pos gone]
      rfl
    · refine (lines i).2 ?_
      rw [c.socketState i, if_neg gone]
      exact holds
  · obtain ⟨windDown, powering, sum⟩ := held (railsOff.trans up)
    refine ⟨windDown, powering, ?_⟩
    have account := c.account covered
    have whole := c.holding allSockets
    rw [← freed_checkedSockets] at whole
    rw [sum, prof, account, whole, Nat.sub_sub]
  · rw [← railState] at runs
    obtain ⟨falls, enable, level, timer, others⟩ := rails r runs (fun q h => (railState q).trans (after q h))
    refine ⟨falls, enable, ?_, ?_, fun q apart => (others q apart).trans (railOf q)⟩
    · rw [level, railOf]
    · rw [timer, prof]

end

end Sys2Proof.Machine
end

section
/-! SUPPORT. The end of a pass (R118, R119, R122 to R124). -/

namespace Sys2Proof.Machine

section
variable {s t u : State} {l : List Socket} {i : Socket}

/-- The end of a pass of a playing engine (R118). -/
theorem endPass_of_playing (plays : s.ptu.engine = .playing ∨ s.ptu.engine = .stopping) :
    s.endPass = if s.postResults.ptu.finishPending then s.postResults.stopEngine.stopComplete else s.postResults.startNextPass :=
  if_pos plays

/-! ### What a check that goes on leaves in the record -/

/-- The record after the pass end is the checked one, its state apart (R122, R123). -/
theorem Checked.goesOn_record (c : Checked s l u) (on : GoesOn u t) (i : Socket) : ∃ st : SocketState,
    t.acu.records[i] = { (if i ∈ l then s.checkedRecord i else s.acu.records[i]) with state := st } ∧
    (st = .failed ↔ u.socketState i = .failed) := by
  obtain ⟨st, record, failed⟩ := on.records i
  rw [c.records i] at record
  exact ⟨st, record, failed⟩

/-- A socket that the pass end does not look at (R118, R119, R134). -/
theorem Checked.of_unchecked (c : Checked s l u) (on : GoesOn u t) (out : ¬(i ∈ l ∧ s.checks i = true)) :
    t.acu.records[i].streak = s.acu.records[i].streak ∧ t.acu.records[i].soft = s.acu.records[i].soft ∧
    t.acu.records[i].passCount = s.acu.records[i].passCount ∧
    t.acu.records[i].mismatchCount = s.acu.records[i].mismatchCount := by
  obtain ⟨st, record, _⟩ := c.goesOn_record on i
  have kept : (if i ∈ l then s.checkedRecord i else s.acu.records[i]) = s.acu.records[i] := by
    split
    · next mem => exact checkedRecord_of_unchecked (Bool.eq_false_iff.2 fun looked => out ⟨mem, looked⟩)
    · rfl
  rw [kept] at record
  rw [record]
  exact ⟨rfl, rfl, rfl, rfl⟩

/-- A socket that matches (R122). -/
theorem Checked.of_match (c : Checked s l u) (on : GoesOn u t) (mem : i ∈ l) (looked : s.checks i = true)
    (fine : s.mismatches i = false) :
    t.acu.records[i].streak = 0 ∧ t.acu.records[i].soft = s.acu.records[i].soft ∧
    t.acu.records[i].passCount = s.acu.records[i].passCount + 1 ∧
    t.acu.records[i].mismatchCount = s.acu.records[i].mismatchCount := by
  obtain ⟨st, record, _⟩ := c.goesOn_record on i
  rw [if_pos mem, checkedRecord_of_match looked fine] at record
  rw [record]
  exact ⟨rfl, rfl, rfl, rfl⟩

/-- A socket that mismatches below the threshold (R123). -/
theorem Checked.of_soft (c : Checked s l u) (on : GoesOn u t) (mem : i ∈ l) (wrong : s.mismatches i = true)
    (below : s.reaches i = false) :
    t.acu.records[i].streak = s.acu.records[i].streak + 1 ∧ t.acu.records[i].soft = true ∧
    t.acu.records[i].passCount = s.acu.records[i].passCount ∧
    t.acu.records[i].mismatchCount = s.acu.records[i].mismatchCount + 1 ∧ t.acu.records[i].state ≠ .failed := by
  obtain ⟨st, record, failed⟩ := c.goesOn_record on i
  rw [if_pos mem, checkedRecord_of_soft wrong below] at record
  have stands : s.failsCheck i = false := by unfold State.failsCheck; rw [below, Bool.and_false]
  have running : u.socketState i = .running := by
    rw [c.socketState i, if_neg (fun h => Bool.false_ne_true (stands.symm.trans h.2))]
    exact running_of_mismatches wrong
  have still : st ≠ .failed := fun e => by
    have now := failed.1 e
    rw [running] at now
    cases now
  rw [record]
  exact ⟨rfl, rfl, rfl, rfl, still⟩

/-- A socket that fails the check: its record (R123, R135). -/
theorem Checked.of_fail (c : Checked s l u) (on : GoesOn u t) (mem : i ∈ l) (fails : s.failsCheck i = true) :
    t.acu.records[i].streak = s.acu.records[i].streak + 1 ∧ t.acu.records[i].soft = s.acu.records[i].soft ∧
    t.acu.records[i].passCount = s.acu.records[i].passCount ∧
    t.acu.records[i].mismatchCount = s.acu.records[i].mismatchCount + 1 ∧ t.acu.records[i].state = .failed ∧
    t.acu.records[i].failure =
      some { kind := .functional, phase := s.rcu.phase, credit := s.acu.records[i].creditAt s.rcu.phase } := by
  obtain ⟨st, record, failed⟩ := c.goesOn_record on i
  rw [if_pos mem, checkedRecord_of_fail fails] at record
  have dead : st = .failed := failed.2 ((c.socketState i).trans (if_pos ⟨mem, fails⟩))
  rw [record]
  exact ⟨rfl, rfl, rfl, rfl, dead, rfl⟩

/-- A socket that mismatches, whether it fails or not (R122). -/
theorem Checked.of_mismatch (c : Checked s l u) (on : GoesOn u t) (mem : i ∈ l) (wrong : s.mismatches i = true) :
    t.acu.records[i].streak = s.acu.records[i].streak + 1 ∧
    t.acu.records[i].passCount = s.acu.records[i].passCount ∧
    t.acu.records[i].mismatchCount = s.acu.records[i].mismatchCount + 1 := by
  cases last : s.reaches i with
  | false =>
    obtain ⟨streak, _, passes, mismatches, _⟩ := c.of_soft on mem wrong last
    exact ⟨streak, passes, mismatches⟩
  | true =>
    obtain ⟨streak, _, passes, mismatches, _⟩ := c.of_fail on mem (by unfold State.failsCheck; rw [wrong, last]; rfl)
    exact ⟨streak, passes, mismatches⟩

/-- A socket that fails the check: what it loses (R65, R97, R100, R123, R135). -/
theorem Checked.loss_of_fail (c : Checked s l u) (on : GoesOn u t) (mem : i ∈ l) (fails : s.failsCheck i = true) :
    t.rlu.sockets[i] = SocketPower.initial ∧ t.thu.heaters[i].onTime = 0 ∧
    (s.queueMatches → t.heaterLine i = false) ∧ t.failLine = true := by
  have failed : u.socketState i = .failed := (c.socketState i).trans (if_pos ⟨mem, fails⟩)
  refine ⟨(on.sockets i failed).trans ((c.sockets i).trans (if_pos ⟨mem, fails⟩)), ?_, fun order => ?_, ?_⟩
  · rcases on.heaters i with same | ended
    · rw [same]
      exact c.cold i mem fails
    · rw [ended]
      rfl
  · refine beq_eq_false_iff_ne.2 ?_
    rcases on.heaters i with same | ended
    · rw [same]
      exact ((c.order order).2 i mem fails).1
    · rw [ended]
      exact nofun
  · exact List.any_eq_true.2 ⟨i, List.mem_finRange i, beq_iff_eq.2 (c.of_fail on mem fails).2.2.2.2.1⟩

/-! ### The player in the next pass -/

/-- Where the next pass begins in its loop (R114, R115, R118 step 3). -/
theorem Checked.advanced (c : Checked s l u) {k : Loop} {v : PatternVector} (loop : s.ptu.loop = some k)
    (vector : s.prof.vectors[k.first]? = some v) (members : Vector Bool 16) : u.ptu.advanced u.prof members = { s.ptu with
      passIndex := s.ptu.passIndex + 1, inverted := invertedAt s.ptu.sequence (s.ptu.passIndex + 1)
      reentryLeft := s.ptu.reentryLeft - 1, sigs := Vector.replicate 16 0xFFFF, members := members
      vector := k.first, clocksLeft := v.clocks, drainLeft := k.latency } := by
  have prof : u.prof = s.prof := by unfold State.prof; rw [c.ldr]
  unfold Ptu.advanced Ptu.begun
  rw [prof, c.ptu]
  dsimp only
  rw [loop]
  dsimp only [Option.map_some, Option.getD_some]
  rw [vector]
  rfl

theorem afterClock_of_many {p : Ptu} (vectors : List PatternVector) (many : p.clocksLeft ≠ 1) :
    p.afterClock vectors = (p.vector, p.clocksLeft - 1) := if_pos many

/-- The last clock of a vector goes to the next of its loop (R114). -/
theorem afterClock_of_next {p : Ptu} {k : Loop} (vectors : List PatternVector) (one : p.clocksLeft = 1) (loop : p.loop = some k)
    (further : p.vector < k.first + k.count - 1) :
    p.afterClock vectors = (p.vector + 1, ((vectors[p.vector + 1]?).map PatternVector.clocks).getD 0) := by
  unfold Ptu.afterClock
  rw [if_neg (not_not.2 one), loop]
  exact if_pos further

/-- The last clock of the loop's last vector (R114). -/
theorem afterClock_of_last {p : Ptu} {k : Loop} (vectors : List PatternVector) (one : p.clocksLeft = 1) (loop : p.loop = some k)
    (last : ¬p.vector < k.first + k.count - 1) : p.afterClock vectors = (p.vector, 0) := by
  unfold Ptu.afterClock
  rw [if_neg (not_not.2 one), loop]
  exact if_neg last

/-- The polarity of an ALTERNATE pass (R115). -/
theorem invertedAt_alternate (k : Word) : invertedAt .alternate k = decide (k.toNat % 2 = 1) := by
  unfold invertedAt
  rcases Nat.mod_two_eq_zero_or_one k.toNat with even | odd
  · rw [even]
    rfl
  · rw [odd]
    rfl

/-! ### The terms of the statement -/

/-- A pass end finds a mismatch (R118, R122). -/
theorem mismatch_eq (s : State) (i : Socket) : (s.ptu.reentryLeft == 0 && s.ptu.members[i] && s.socketState i == .running &&
    s.ptu.sigs[i] != s.ptu.expected) = (decide (i ∈ s.checkedSockets) && s.mismatches i) := by
  unfold State.checkedSockets State.mismatches State.checks
  have all : i ∈ allSockets := List.mem_finRange i
  by_cases last : s.ptu.reentryLeft = 0
  · rw [if_pos last, decide_eq_true all, beq_iff_eq.2 last, Bool.true_and, Bool.true_and]
  · rw [if_neg last, decide_eq_false List.not_mem_nil, beq_eq_false_iff_ne.2 last]
    rfl

/-- The sockets checked are all, or none in a re-entry pass (R118). -/
theorem mem_checkedSockets : i ∈ s.checkedSockets ↔ s.ptu.reentryLeft = 0 := by
  unfold State.checkedSockets
  have all : i ∈ allSockets := List.mem_finRange i
  by_cases last : s.ptu.reentryLeft = 0
  · rw [if_pos last]
    exact iff_of_true all last
  · rw [if_neg last]
    exact iff_of_false List.not_mem_nil last

/-- The entries of a pass end, socket by socket (R123). -/
theorem filterMap_checkedSockets : s.checkedSockets.filterMap s.checkEntry =
    allSockets.filterMap (fun i => if decide (i ∈ s.checkedSockets) = true then s.checkEntry i else none) := by
  by_cases last : s.ptu.reentryLeft = 0
  · have all : s.checkedSockets = allSockets := if_pos last
    rw [all]
    refine List.filterMap_congr fun i mem => (if_pos (decide_eq_true mem)).symm
  · have none : s.checkedSockets = [] := if_neg last
    rw [none]
    exact (List.filterMap_eq_nil_iff.2 fun i _ => if_neg (by simp)).symm

end

end Sys2Proof.Machine

namespace Sys2Proof

open Machine

/-- Settles O44: the end of a pass, the finish request and the completion of a stop. -/
theorem passEndChecksAndGoesOn : Obligations.PassEndChecksAndGoesOn := by
  refine ⟨fun s windDown waits => ?_, fun s => ⟨requestFinish_of_playing, fun static => ?_, requestFinish_of_stopping,
    requestFinish_of_stopped⟩, fun s plays => ?_⟩
  · rw [stopComplete_of_windDown windDown waits]
    obtain ⟨wound, rcu, _, _, _, _, ⟨_, _, _, acu, off⟩, _⟩ := powerDown_spec windDown
    refine ⟨wound, ?_, fun i => ?_⟩
    · rcases rcu with e | e <;> rw [e]
      rfl
    · unfold State.socketState
      rw [acu]
      exact congrArg SocketRecord.state (off i)
  · exact ⟨s.stopEngine, requestFinish_of_static static, rfl, rfl, rfl, rfl, rfl, rfl⟩
  · intro mismatch final entry freed
    have c := postResults_checked s
    have taken : exec .passEnd s = .next s.endPass := rfl
    rw [endPass_of_playing plays] at taken
    generalize s.postResults = u at c taken
    have player : u.ptu.finishPending = s.ptu.finishPending ∧ u.ptu.engine = s.ptu.engine ∧
        u.ptu.passIndex = s.ptu.passIndex ∧ u.ptu.reentryLeft = s.ptu.reentryLeft - 1 ∧ u.ptu.sequence = s.ptu.sequence := by
      rw [c.ptu]
      exact ⟨rfl, rfl, rfl, rfl, rfl⟩
    obtain ⟨finishing, engine, passIndex, reentryLeft, sequence⟩ := player
    have prof : u.prof = s.prof := by unfold State.prof; rw [c.ldr]
    rw [finishing] at taken
    have stopped := stopComplete_frame u.stopEngine
    have on : GoesOn u (if s.ptu.finishPending = true then u.stopEngine.stopComplete else u.startNextPass) := by
      split
      · exact ⟨stopped.1.history, stopped.1.records, stopped.1.sockets, stopped.1.heaters⟩
      · exact goesOn_startNextPass u
    have mem (i : Socket) := mem_checkedSockets (s := s) (i := i)
    have mismatchIs (i : Socket) : mismatch i = true ↔ i ∈ s.checkedSockets ∧ s.mismatches i = true := by
      rw [show mismatch i = _ from mismatch_eq s i, Bool.and_eq_true, decide_eq_true_eq]
    have checkedIs (i : Socket) : (s.ptu.reentryLeft = 0 ∧ s.ptu.members[i] = true ∧ s.socketState i = .running) ↔
        i ∈ s.checkedSockets ∧ s.checks i = true := by
      unfold State.checks
      rw [mem i, Bool.and_eq_true, beq_iff_eq]
    have wrongIs (i : Socket) (looked : s.checks i = true) : s.mismatches i = true ↔ s.ptu.sigs[i] ≠ s.ptu.expected := by
      unfold State.mismatches
      rw [looked, Bool.true_and, bne_iff_ne]
    have fails (i : Socket) : s.failsCheck i = (s.mismatches i && final i) := rfl
    refine ⟨_, taken, fun le => ?_, fun going free => ?_, fun i => ?_, fun playing going => ?_, fun finish => ?_⟩
    · rw [on.history, c.history le, filterMap_checkedSockets]
      refine congrArg (fun es => (s.acu.history ++ es).take 48) (List.filterMap_congr fun i _ => ?_)
      show _ = if (mismatch i && (final i || !s.acu.records[i].soft)) = true then _ else none
      rw [show mismatch i = _ from mismatch_eq s i]
      unfold State.checkEntry
      cases decide (i ∈ s.checkedSockets) <;> rfl
    · have freedIs : freed = s.freed s.checkedSockets := by
        rw [freed_checkedSockets]
        refine congrArg (fun m : List Socket => (m.map (fun i => s.rlu.sockets[i].allowance)).sum) (List.filter_congr fun i _ => ?_)
        show (mismatch i && final i) = _
        rw [show mismatch i = _ from mismatch_eq s i, Bool.and_assoc]
        rfl
      obtain ⟨_, _, _, next, _⟩ := startNextPass_frame u
      rw [going, if_neg Bool.false_ne_true, next, freedIs]
      show u.bdu = _
      rw [c.bdu, (c.free free).2]
    · have matched (looked : s.ptu.reentryLeft = 0 ∧ s.ptu.members[i] = true ∧ s.socketState i = .running)
          (right : s.ptu.sigs[i] = s.ptu.expected) := by
        obtain ⟨inL, checks⟩ := (checkedIs i).1 looked
        exact c.of_match on inL checks (Bool.eq_false_iff.2 fun bad => (wrongIs i checks).1 bad right)
      have mismatched (wrong : mismatch i = true) := c.of_mismatch on ((mismatchIs i).1 wrong).1 ((mismatchIs i).1 wrong).2
      have unchecked (out : ¬(s.ptu.reentryLeft = 0 ∧ s.ptu.members[i] = true ∧ s.socketState i = .running)) :=
        c.of_unchecked on (fun h => out ((checkedIs i).2 h))
      refine ⟨fun looked right => ⟨(matched looked right).1, (matched looked right).2.1⟩,
        fun wrong => ⟨(mismatched wrong).1, fun last => ?_, fun below => ?_⟩,
        fun out => ⟨(unchecked out).1, (unchecked out).2.1⟩, fun looked right => (matched looked right).2.2,
        fun looked wrong => ?_, fun out => (unchecked out).2.2⟩
      · obtain ⟨inL, bad⟩ := (mismatchIs i).1 wrong
        have dead : s.failsCheck i = true := by rw [fails, bad, last]; rfl
        obtain ⟨_, soft, _, _, state, failure⟩ := c.of_fail on inL dead
        obtain ⟨power, cold, dark, line⟩ := c.loss_of_fail on inL dead
        exact ⟨state, soft, power, cold, dark, line, failure⟩
      · obtain ⟨inL, bad⟩ := (mismatchIs i).1 wrong
        obtain ⟨_, soft, _, _, state⟩ := c.of_soft on inL bad below
        exact ⟨state, soft⟩
      · obtain ⟨inL, checks⟩ := (checkedIs i).1 looked
        exact (c.of_mismatch on inL ((wrongIs i checks).2 wrong)).2
    · obtain ⟨records, members, ptu, next, rejoined, joined, ⟨engineP, passP, invertedP, reentryP, sigsP, membersP⟩, first⟩ :=
        startNextPass_frame u
      rw [going, if_neg Bool.false_ne_true, next]
      have stateOf (i : Socket) : records[i].state = (u.socketState i).rejoin := congrArg SocketRecord.state (rejoined i)
      have memberOf (i : Socket) : ptu.members[i] = members[i] := by rw [membersP]
      refine ⟨engineP.trans (engine.trans playing), by rw [← passIndex]; exact passP, ?_, reentryP.trans reentryLeft, c.rcu, c.biu,
        fun l v loop vector some_clock => ?_, fun i => ⟨?_, ?_, ?_, fun settled => ?_⟩⟩
      · show ptu.inverted = _
        rw [invertedP, sequence, passIndex]
        cases s.ptu.sequence with
        | none => rfl
        | alternate => exact invertedAt_alternate _
        | pairs => rfl
      · have at_first := c.advanced loop vector members
        have player := first v (by rw [at_first]; exact Nat.one_le_iff_ne_zero.1 some_clock)
          (by rw [at_first, prof]; exact vector)
        rw [sequence, passIndex] at player
        have at_clock : ptu.vector = ((u.ptu.advanced u.prof members).afterClock u.prof.vectors).1 ∧
            ptu.clocksLeft = ((u.ptu.advanced u.prof members).afterClock u.prof.vectors).2 := by
          rw [player]
          exact ⟨rfl, rfl⟩
        have facts : (u.ptu.advanced u.prof members).clocksLeft = v.clocks ∧
            (u.ptu.advanced u.prof members).vector = l.first ∧ (u.ptu.advanced u.prof members).loop = some l := by
          rw [at_first]
          exact ⟨rfl, rfl, loop⟩
        obtain ⟨clocks, begins, looped⟩ := facts
        refine ⟨?_, fun many => ?_, fun one further => ?_, fun one last => ?_⟩
        · show ptu = _
          rw [at_first] at player
          rw [player]
          rfl
        · rw [afterClock_of_many _ (by rw [clocks]; exact many), begins, clocks] at at_clock
          exact at_clock
        · rw [afterClock_of_next _ (clocks.trans one) looped (by omega), begins] at at_clock
          refine ⟨at_clock.1, fun w nextVector => at_clock.2.trans ?_⟩
          rw [prof, nextVector]
          rfl
        · rw [afterClock_of_last _ (clocks.trans one) looped (by omega), begins] at at_clock
          exact at_clock
      · show ptu.sigs[i] = _
        rw [show ptu.sigs[i] = (Vector.replicate 16 (0xFFFF : Half))[i] by rw [sigsP]]
        simp
      · show ptu.members[i] = true ↔ records[i].state = .running
        rw [memberOf, joined i, stateOf i]
        exact beq_iff_eq
      · show records[i].state ≠ .settled
        rw [stateOf i]
        exact SocketState.rejoin_ne_settled _
      · show records[i].state = .running
        rw [stateOf i, c.socketState i, if_neg ?_, settled]
        · rfl
        · rintro ⟨_, dead⟩
          rw [fails, Bool.and_eq_true] at dead
          rw [running_of_mismatches dead.1] at settled
          cases settled
    · obtain ⟨goes, ⟨members, ptu, out⟩, gate⟩ := stopped
      rw [finish, if_pos rfl]
      refine ⟨by rw [ptu]; rfl, ?_, ?_, gate, fun i => ?_, fun windDown waits covered => ?_⟩
      · unfold State.clockLine
        rw [ptu]
        rfl
      · unfold State.driveLines
        rw [ptu, ← prof]
        rfl
      · rw [ptu]
        refine Bool.eq_false_iff.2 fun member => ?_
        have was := out i member
        have none : (Vector.replicate 16 false)[i] = false := by simp
        exact Bool.false_ne_true (none.symm.trans was)
      · have windDownU : u.stopEngine.rcu.state = .windDown := (congrArg Rcu.state c.rcu).trans windDown
        have waitsU : u.stopEngine.rcu.poweringDown = false := (congrArg Rcu.poweringDown c.rcu).trans waits
        have wound : u.stopEngine.windsDown u.stopEngine.stopComplete := by
          rw [stopComplete_of_windDown windDownU waitsU]
          exact (powerDown_spec windDownU).1
        exact windsDown_of_checked c covered
          ⟨goes.history, goes.records, goes.sockets, goes.heaters⟩ wound

end Sys2Proof
end

section
/-! SUPPORT. A run whose queue asks for a socket ahead of its rails (R31, R55, R59, R60, R82): the laws as stated allow it, and a
mark takes it to a switch closed over rails that are OFF. -/

namespace Sys2Proof.Machine

/-- Parameters with every amount 1, which R177 and R178 allow of them. -/
def unitProfile : Profile :=
  { Profile.blank with
    budget := 10, lostThreshold := 1, nominal := 1, base := Vector.replicate 4 1, allowance := Vector.replicate 4 1 }

/-- BRINGUP with every rail OFF, the SOCKET need of socket 0 ahead of the RAILBASE need, and that need asked for in the frame
sent. `NeedsInOrder` does not say which of the two stands first, and says nothing of what was asked while a RAILBASE need waits
anywhere in the queue. -/
def socketBeforeRails : State :=
  { State.reset with
    rcu := { Rcu.initial with state := .active, sub := some .bringUp }
    biu := { Biu.initial with synced := true, tx := .sentWhole }
    bdu := { Bdu.initial with queue := [.socket 0, .railBase], sentAsked := 1, sentNeed := some (.socket 0) }
    ldr := { Ldr.initial with straps := some { slot := 2, rate := false }, profile := some unitProfile }
    pending := [.mark] }

/-- At the mark the grant fits, and the need at the head is handed on. -/
def socketOverNoRails : State := State.edge { socketBeforeRails with pending := [] }

theorem step_socketBeforeRails : step socketBeforeRails = .next socketOverNoRails := rfl

/-- No socket, rail or heater is at work, as at reset. -/
theorem socketBeforeRails_at_rest :
    (∀ i : Socket, socketBeforeRails.socketState i = .off ∧ socketBeforeRails.rlu.sockets[i] = SocketPower.initial ∧
      socketBeforeRails.thu.heaters[i] = Heater.initial) ∧
    socketBeforeRails.railsOff = true ∧ socketBeforeRails.holders = 0 := reset_at_rest

theorem unitProfile_paysInOrder : unitProfile.paysInOrder := by
  have base (l : Fin 4) : unitProfile.base[l] = 1 := by simp [unitProfile]
  have allowance (l : Fin 4) : unitProfile.allowance[l] = 1 := by simp [unitProfile]
  refine ⟨Nat.le_refl 1, fun l => ?_, fun l m _ => ?_⟩
  · rw [base, allowance]
    exact ⟨Nat.le_refl 1, Nat.le_refl 1⟩
  · rw [base, base, allowance, allowance]
    exact ⟨Nat.le_refl 1, Nat.le_refl 1⟩

/-- The needs are in order, the rails wanted behind the socket: every rail is OFF, as the RAILBASE need requires, and so no
SOCKET need is bound to have been asked for while the rails carried. -/
theorem needsInOrder_socketBeforeRails : socketBeforeRails.NeedsInOrder where
  nodup := by decide
  railBase _ := ⟨socketBeforeRails_at_rest.2.1, rfl⟩
  socket i _ := .inl (socketBeforeRails_at_rest.1 i).1
  transition mem := absurd mem (by decide)
  recovering sub := by cases sub
  target transit := absurd rfl transit
  asked _ _ _ _ absent := absurd (by decide) absent

theorem lawful_socketBeforeRails : socketBeforeRails.Lawful where
  pool := poolInOrder_reset
  switches := lawful_reset.switches
  cold := lawful_reset.cold
  finals := lawful_reset.finals
  fresh _ := rfl
  profile _ := unitProfile_paysInOrder
  sum _ := by
    unfold State.heldSum State.baseHeld
    rw [if_pos ⟨socketBeforeRails_at_rest.2.1, rfl⟩, socketBeforeRails_at_rest.2.2, Nat.zero_mul]
    rfl
  allowances _ i := by
    obtain ⟨off, power, _⟩ := socketBeforeRails_at_rest.1 i
    rw [off, power]
    rfl
  carry _ loaded := by
    rcases loaded with holders | running | transition | ⟨held, _⟩
    · exact absurd socketBeforeRails_at_rest.2.2 holders
    · cases running
    · cases transition
    · cases held
  rails _ r := by
    have off : socketBeforeRails.railState r = .off := railsOff_iff.1 socketBeforeRails_at_rest.2.1 r
    rw [off]
    exact ⟨nofun, nofun⟩
  deferred _ deferred := by cases deferred
  needs _ := needsInOrder_socketBeforeRails
  windDown windDown := by cases windDown
  falling windDown := by cases windDown
  rest idle := absurd (.inl rfl) idle
  idle inactive := absurd rfl inactive
  muted muted := by cases muted

/-- After the mark the run is under way with socket 0 POWERING and rail A OFF. -/
theorem socketOverNoRails_powers : socketOverNoRails.rcu.state = .active ∧ socketOverNoRails.socketState 0 = .powering ∧
    socketOverNoRails.railState .a = .off := by decide +kernel

end Sys2Proof.Machine

namespace Sys2Proof

open Machine

/-- Refutes O54: the laws leave the order of the RAILBASE and the SOCKET needs open. From `socketBeforeRails`, which keeps all of
them, a mark grants the SOCKET need at the head and closes its switch while every rail is OFF, so the second law (`carry`) is
broken. -/
theorem not_stepKeepsTheLawsOfPowerAndHeat : ¬ Obligations.StepKeepsTheLawsOfPowerAndHeat := by
  intro holds
  have kept : socketOverNoRails.Lawful := holds.1 _ _ lawful_socketBeforeRails step_socketBeforeRails
  obtain ⟨active, powering, off⟩ := socketOverNoRails_powers
  have holder : socketOverNoRails.holders ≠ 0 := by
    refine List.length_pos_iff_exists_mem.2 ⟨0, List.mem_filter.2 ⟨List.mem_finRange 0, ?_⟩⟩ |>.ne'
    rw [powering]
    rfl
  have carry : socketOverNoRails.railsCarry = true := kept.carry (.inl active) (.inl holder)
  have rail_a : (socketOverNoRails.railState .a == .up || socketOverNoRails.railState .a == .retargeting) = true :=
    List.all_eq_true.1 carry .a (by decide)
  rw [off] at rail_a
  cases rail_a

end Sys2Proof
end
